-- ==== Sys2Proof/Word.lean ====
section
/-! DEFINITION. The bit-vector and byte-sequence types of the spec's notation (00_scope.md R7, R8). -/

namespace Sys2Proof

/-- One 8-bit byte or secret character (R8, R11). -/
abbrev Byte := BitVec 8

/-- One 32-bit bus word or command word (R41, R59). -/
abbrev Word := BitVec 32

/-- A 64-bit unsigned timestamp or counter (R6). -/
abbrev Stamp := BitVec 64

/-- A byte offset of the register bus, 0x000 to 0xFFF (R43). -/
abbrev Offset := BitVec 12

/-- A byte sequence (R8). -/
abbrev Bytes := List Byte

/-- The 8-byte HMAC message (R5, R28). -/
abbrev Msg := Vector Byte 8

/-- The 20-byte HMAC-SHA1 output (R5, R31). -/
abbrev Digest := Vector Byte 20

/-- The six characters of a Code (R35). -/
abbrev CodeStr := Vector Byte 6

end Sys2Proof
end

