-- ==== Sys2Proof/Config.lean ====
section
/-! DEFINITION. The constants R5 fixes, the bounds of the parameter SECRET_CAP (R6), and the free values: opaque
constants without a body for what the spec leaves open (92_eei_decisions.md D32). -/

namespace Sys2Proof.Config

/-- STEP: 30 seconds (R5). -/
def stepSeconds : Nat := 30

/-- 10^DIGITS with DIGITS = 6 (R5, R89). -/
def codeModulus : Nat := 1000000

/-- The SECRET_CAP that State.reset is launched with: the reference value of R6 and D28.
DESIGN CHOICE, log 1: every statement about reset is made for every legal value. -/
def refSecretCap : Nat := 256

/-- The values R6 allows SECRET_CAP. -/
def legalCap (cap : Nat) : Bool := decide (32 ≤ cap) && decide (cap ≤ 1024) && cap % 8 == 0

/-- KEY_CAP = 5 * SECRET_CAP / 8 bytes (R6). -/
def keyCap (cap : Nat) : Nat := 5 * cap / 8

/-- The unspecified contents of SECRET_BUF after the reset number `epoch` (R24, R119). Free value, log 5. -/
opaque freeChar (epoch index : Nat) : Byte

/-- The sample of an undriven `now_sec`, the `draw`-th free value of a run (R75). Free value, log 6. -/
opaque freeTime (draw : Nat) : Stamp

/-- What the result bits of a register read as while PHASE is not IDLE (R40). Free value, log 4. -/
opaque freeWord (draw : Nat) : Word

/-- HMAC_FN: the function of key and message that a conforming provider computes (R82). Parameter, log 7. -/
opaque hmacFn (key : Bytes) (msg : Msg) : Digest

end Sys2Proof.Config
end

