-- ==== Sys2Proof/Syntax.lean ====
section
/-! DEFINITION. The command format CMD32 (R59), the twelve commands of spec/opcode_table.json (R65), and the host
program syntax of R66. -/

namespace Sys2Proof

/-- The format CMD32 of a command word (R59). -/
structure Cmd32 where
  /-- bits 7:0, the opcode -/
  opc  : BitVec 8
  /-- bit 8, timestamp select -/
  tsel : Bool
  /-- bits 31:9, reserved -/
  rsv  : BitVec 23
  deriving DecidableEq, Repr

/-- One constructor per row of spec/opcode_table.json; the `Ts` forms have TSEL = 1. No command has an operand (R62). -/
inductive Instr where
  | decode
  | counter
  | counterTs
  | pack
  | hmac
  | trunc
  | generate
  | generateTs
  | secrem
  | secremTs
  | ratio
  | ratioTs
  deriving DecidableEq, Repr

/-- The fields of each command's word (R60, R61, R65). -/
def Instr.fields : Instr → Cmd32
  | .decode     => ⟨0x01, false, 0⟩
  | .counter    => ⟨0x02, false, 0⟩
  | .counterTs  => ⟨0x02, true, 0⟩
  | .pack       => ⟨0x03, false, 0⟩
  | .hmac       => ⟨0x04, false, 0⟩
  | .trunc      => ⟨0x05, false, 0⟩
  | .generate   => ⟨0x06, false, 0⟩
  | .generateTs => ⟨0x06, true, 0⟩
  | .secrem     => ⟨0x07, false, 0⟩
  | .secremTs   => ⟨0x07, true, 0⟩
  | .ratio      => ⟨0x08, false, 0⟩
  | .ratioTs    => ⟨0x08, true, 0⟩

/-- A provider's response (R81). -/
inductive Answer where
  /-- `OK(d)`, with d exactly 20 bytes -/
  | ok (d : Digest)
  /-- the primitive cannot be invoked -/
  | unavailable
  deriving DecidableEq, Repr

/-- One step of the host's program: a bus access, or the loop POLL expands into (R41, R42, R67). -/
inductive HostStep where
  /-- `RD off` -/
  | read (off : Offset)
  /-- `WR off, v` -/
  | write (off : Offset) (v : Word)
  /-- `loop: RD STATUS; if bit 0 (BUSY) = 1 goto loop` -/
  | poll
  deriving DecidableEq, Repr

/-- One line of a host program (R66, R67). -/
inductive HostOp where
  | wr (off : Offset) (v : Word)
  | rd (off : Offset)
  | cmd (i : Instr)
  | poll
  | ldsecret (text : Bytes)
  | ldts (t : Stamp)
  | rsp (a : Answer)
  deriving DecidableEq, Repr

end Sys2Proof
end

