-- ==== Sys2Proof/Machine/State.lean ====
section
/-! DEFINITION. The state of the gotp TOTP core: every register and hidden state of R13, the two input and output
ports (R75, R80), the model's own fields (marked), and the state after reset (R119). -/

namespace Sys2Proof.Machine

/-- A sparse byte store: (index, byte) pairs in canonical form, indices strictly rising. -/
abbrev Memory := List Host.Cell

/-- The canonical form: the indices strictly rise. An unlisted index reads as an unspecified value (R24), which is no
byte an entry could equal, so nothing more is asked of an entry (log 5). -/
abbrev Memory.wf (m : Memory) : Prop := (m.map Prod.fst).Pairwise (· < ·)

/-- PHASE (R38): no command, a command's work is pending, or an HMAC request is outstanding. -/
inductive Phase where
  | idle
  | exec
  | wait
  deriving DecidableEq, Repr

/-- The fields of STATUS (R15); bits 7 and 31:16 are no storage and read 0. -/
structure Status where
  busy   : Bool
  done   : Bool
  err    : BitVec 3
  invfmt : Bool
  ovr    : Bool
  lastop : BitVec 8
  deriving DecidableEq, Repr

/-- The hash algorithm a request names; only SHA-1 exists (R2, R80). -/
inductive HashAlg where
  | sha1
  deriving DecidableEq, Repr

/-- One request on the provider port (R80). -/
structure HmacReq where
  alg    : HashAlg
  keyLen : Nat
  key    : Bytes
  msgLen : Nat
  msg    : Msg
  deriving DecidableEq, Repr

/-- One move of one agent (R112). The model's form of the interleaving, log 2. -/
inductive Move where
  /-- the host makes the next access of its program (R41, R42, R52) -/
  | host
  /-- the core takes its own step, if one is enabled (R39) -/
  | core
  /-- the provider responds (R81): any 20 bytes, or UNAVAILABLE -/
  | respond (a : Answer)
  /-- the provider responds as R82 assumes: OK(HMAC_FN(key, message)) of the request -/
  | respondHmac
  /-- the time source drives `now_sec`, or leaves it to a free draw (R75) -/
  | drive (now : Option Stamp)
  /-- the reset input is applied (R119) -/
  | reset
  deriving DecidableEq, Repr

/-- The machine. Registers and hidden state as R13 lists them, then the ports, then the model's own fields. -/
structure State where
  /-- STATUS (R15) -/
  status      : Status
  /-- SECRET_CAP, the variable part of the hardwired CONFIG (R6, R22); no step changes it (log 1) -/
  secretCap   : Nat
  /-- SECRET_LEN (R23) -/
  secretLen   : BitVec 11
  /-- SECRET_BUF (R24): the characters the host has written since reset -/
  secretBuf   : Memory
  /-- TS_OVR (R25) -/
  tsOvr       : Stamp
  /-- TS_USED (R26) -/
  tsUsed      : Stamp
  /-- COUNTER (R27) -/
  counter     : Stamp
  /-- MSG (R28) -/
  msg         : Msg
  /-- KEY_LEN (R29) -/
  keyLen      : BitVec 10
  /-- KEY_BUF (R30), KEY_CAP bytes -/
  keyBuf      : Bytes
  /-- DIGEST (R31) -/
  digest      : Digest
  /-- OFFSET (R32) -/
  offset      : BitVec 4
  /-- BINCODE (R33) -/
  bincode     : BitVec 31
  /-- CODE (R34) -/
  code        : BitVec 20
  /-- CODE_STR (R35) -/
  codeStr     : CodeStr
  /-- SECS_REM (R36) -/
  secsRem     : BitVec 5
  /-- RATIO.NUM (R37); RATIO.DEN is hardwired -/
  ratioNum    : BitVec 5
  /-- PHASE (R38) -/
  phase       : Phase
  /-- CUR (R38): the command being run with its TSEL bit, or none -/
  cur         : Option Instr
  /-- T_LAT (R38) -/
  tLat        : Stamp
  /-- OUTSTANDING (R38) -/
  outstanding : Bool
  /-- port.req (R80): the request the provider holds (log 8) -/
  portReq     : Option HmacReq
  /-- the input port `now_sec` (R75): the driven value, or none where a sample is a free draw (log 6) -/
  nowSec      : Option Stamp
  /-- MODEL's own: the word the last host read returned (log 3) -/
  readData    : Option Word
  /-- MODEL's own: the program of the one host still to run, its next step first (R52, R67, log 2) -/
  host        : List HostStep
  /-- MODEL's own: the agents' moves still to come, the next first (log 2) -/
  inputs      : List Move
  /-- MODEL's own: how many free values have been drawn (log 4) -/
  draws       : Nat
  /-- MODEL's own: how many resets have been applied (log 5) -/
  epoch       : Nat
  deriving DecidableEq, Repr

/-- Why the machine stops. The spec gives the core no fault (R108); both reasons stand for states that no run from
reset reaches (log 9), and both are safe: nothing is claimed of the machine after them. -/
inductive Fault where
  /-- raised by the core's step in PHASE = EXEC when CUR is none; safe, no reachable state has it -/
  | noCurrentCommand
  /-- raised by the provider's response when OUTSTANDING = 1 and CUR is no HMAC or GENERATE; safe, no reachable state has it -/
  | noCommandAwaitsResponse
  deriving DecidableEq, Repr

/-- Why an instruction has no meaning. -/
inductive Refusal where
  /-- raised by the dispatcher for an instruction without a meaning; safe. No arm raises it. -/
  | notModelled (mnemonic : String)
  deriving DecidableEq, Repr

/-- n bytes of 0x00 (R8). -/
def zeros (n : Nat) : Bytes := List.replicate n 0

/-- STATUS after reset: 0x00000000 (R13). -/
def Status.reset : Status := ⟨false, false, 0, false, false, 0⟩

/-- The state after reset of a core whose parameter SECRET_CAP is `cap` (R13, R119). -/
def State.resetWith (cap : Nat) : State where
  status      := Status.reset
  secretCap   := cap
  secretLen   := 0
  secretBuf   := []
  tsOvr       := 0
  tsUsed      := 0
  counter     := 0
  msg         := Vector.replicate 8 0
  keyLen      := 0
  keyBuf      := zeros (Config.keyCap cap)
  digest      := Vector.replicate 20 0
  offset      := 0
  bincode     := 0
  code        := 0
  codeStr     := Vector.replicate 6 0
  secsRem     := 0
  ratioNum    := 0
  phase       := .idle
  cur         := none
  tLat        := 0
  outstanding := false
  portReq     := none
  nowSec      := none
  readData    := none
  host        := []
  inputs      := []
  draws       := 0
  epoch       := 0

/-- The machine right after reset, launched with the reference SECRET_CAP (log 1). -/
def State.reset : State := State.resetWith Config.refSecretCap

end Sys2Proof.Machine
end

