-- ==== Sys2Proof/Machine/Flags.lean ====
section
/-! DEFINITION. STATUS: its layout (R15), the error codes (R101), and every change a rule makes to its fields. -/

namespace Sys2Proof.Machine

/-- The errors of R101; codes 4 to 7 are never produced (R18). -/
inductive Err where
  | none
  | primitiveUnavailable
  | illegalCmd
  | secretTooLong
  deriving DecidableEq, Repr

/-- The code of an error in STATUS.ERR (R101). -/
def errCode : Err → BitVec 3
  | .none                 => 0
  | .primitiveUnavailable => 1
  | .illegalCmd           => 2
  | .secretTooLong        => 3

/-- The word STATUS reads as (R15). -/
def statusWord (st : Status) : Word :=
  0#16 ++ st.lastop ++ 0#1 ++ BitVec.ofBool st.ovr ++ BitVec.ofBool st.invfmt ++ st.err
    ++ BitVec.ofBool st.done ++ BitVec.ofBool st.busy

/-- The first lines of Accept: DONE, ERR, INVFMT and OVR cleared, LASTOP recorded (R106, R17 to R21). -/
def Status.offered (op : BitVec 8) (st : Status) : Status :=
  { st with done := false, err := 0, invfmt := false, ovr := false, lastop := op }

/-- The last line of Accept (R106). -/
def Status.started (st : Status) : Status := { st with busy := true }

/-- Complete(e): ERR, BUSY and DONE (R107). -/
def Status.completed (e : Err) (st : Status) : Status :=
  { st with err := errCode e, busy := false, done := true }

/-- A host write was dropped (R20, R110). -/
def Status.dropped (st : Status) : Status := { st with ovr := true }

/-- INVFMT after a decode: set when a non-empty secret gave no key byte, else unchanged (R19, R73). -/
def Status.noteFormat (secretLen keyLen : Nat) (st : Status) : Status :=
  { st with invfmt := st.invfmt || (decide (0 < secretLen) && keyLen == 0) }

end Sys2Proof.Machine
end

