-- ==== Sys2Proof/WellFormed.lean ====
section
/-! DEFINITION. When a command is legal: the three checks of R63, on the fields of a command word. -/

namespace Sys2Proof

/-- Bits 31:9 are 0 (R59, R63). -/
def Cmd32.reservedZero (c : Cmd32) : Bool := c.rsv == 0

/-- The opcode is one of 0x01 to 0x08 (R60, R63). -/
def Cmd32.opcodeAssigned (c : Cmd32) : Bool := decide (1 ≤ c.opc.toNat) && decide (c.opc.toNat ≤ 8)

/-- TSEL = 1 stands only on COUNTER, GENERATE, SECREM and RATIO (R61, R63). -/
def Cmd32.tselAdmitted (c : Cmd32) : Bool :=
  !c.tsel || c.opc == 0x02 || c.opc == 0x06 || c.opc == 0x07 || c.opc == 0x08

/-- R63: a command is legal exactly when all three checks hold. -/
def Cmd32.legal (c : Cmd32) : Bool := c.reservedZero && c.opcodeAssigned && c.tselAdmitted

/-- An instruction is well formed when its fields are a legal command. -/
def Instr.wf (i : Instr) : Bool := i.fields.legal

end Sys2Proof
end

