-- ==== Sys2Proof/Decode.lean ====
section
/-! DEFINITION. Decoding a command word, total on every 32-bit word and rejecting by name (R59 to R65), and the encoder. -/

namespace Sys2Proof

/-- Why a word is no legal command (R63, R64). -/
inductive Reject where
  /-- a bit of 31:9 is set -/
  | reservedBits
  /-- opcode 0x00 or 0x09 to 0xFF -/
  | unassignedOpcode
  /-- TSEL = 1 on DECODE, PACK, HMAC or TRUNC -/
  | tselNotAdmitted
  deriving DecidableEq, Repr

/-- What a command word is: a command, or illegal for a named reason. -/
inductive Decoded where
  | cmd (i : Instr)
  | illegal (r : Reject)
  deriving DecidableEq, Repr

/-- The fields of a command word (R59). -/
def Cmd32.ofWord (w : Word) : Cmd32 where
  opc  := w.extractLsb' 0 8
  tsel := w.getLsbD 8
  rsv  := w.extractLsb' 9 23

/-- The command word with the given fields (R59). -/
def Cmd32.toWord (c : Cmd32) : Word := c.rsv ++ BitVec.ofBool c.tsel ++ c.opc

/-- The opcode map of R60 with the TSEL column of R61, for a word whose reserved bits are 0. -/
def decodeFields (opc : Nat) (tsel : Bool) : Decoded :=
  match opc, tsel with
  | 0x01, false => .cmd .decode
  | 0x02, false => .cmd .counter
  | 0x02, true  => .cmd .counterTs
  | 0x03, false => .cmd .pack
  | 0x04, false => .cmd .hmac
  | 0x05, false => .cmd .trunc
  | 0x06, false => .cmd .generate
  | 0x06, true  => .cmd .generateTs
  | 0x07, false => .cmd .secrem
  | 0x07, true  => .cmd .secremTs
  | 0x08, false => .cmd .ratio
  | 0x08, true  => .cmd .ratioTs
  | 0x01, true  => .illegal .tselNotAdmitted
  | 0x03, true  => .illegal .tselNotAdmitted
  | 0x04, true  => .illegal .tselNotAdmitted
  | 0x05, true  => .illegal .tselNotAdmitted
  | _, _        => .illegal .unassignedOpcode

/-- R65: the decode of a command word is total. -/
def decodeWord (w : Word) : Decoded :=
  let c := Cmd32.ofWord w
  if c.rsv = 0 then decodeFields c.opc.toNat c.tsel else .illegal .reservedBits

/-- The instruction a decoded word stands for, if it is one. -/
def Decoded.instr? : Decoded → Option Instr
  | .cmd i     => some i
  | .illegal _ => none

/-- The command word of an instruction (R65). -/
def encode (i : Instr) : Word := i.fields.toWord

/-- The low 8 bits of a command word: what LASTOP records, legal or not (R21). -/
def opcodeBits (w : Word) : BitVec 8 := (Cmd32.ofWord w).opc

/-- The decoder on a table word: the bits above `nbits` are 0, and a command is one 32-bit word (R59). -/
def decodeTableWord (nbits w : Nat) : Option Instr :=
  (decodeWord (BitVec.ofNat 32 (w % 2 ^ nbits))).instr?

end Sys2Proof
end

