-- ==== Sys2Proof/Machine/Memory.lean ====
section
/-! DEFINITION. The sparse byte store behind SECRET_BUF: looking up and writing one byte, in canonical form. -/

namespace Sys2Proof.Machine

/-- The byte listed at an index, if one is. -/
def Memory.lookup : Memory → Nat → Option Byte
  | [], _ => none
  | (j, b) :: rest, i => if i = j then some b else Memory.lookup rest i

/-- Write one byte (R8, `BUF[i] <- v`), keeping the indices strictly rising. -/
def Memory.insert (i : Nat) (v : Byte) : Memory → Memory
  | [] => [(i, v)]
  | (j, b) :: rest =>
    if i < j then (i, v) :: (j, b) :: rest
    else if i = j then (i, v) :: rest
    else (j, b) :: Memory.insert i v rest

/-- Write consecutive bytes from an index on. -/
def Memory.insertAll (i : Nat) : Bytes → Memory → Memory
  | [], m => m
  | v :: vs, m => Memory.insertAll (i + 1) vs (Memory.insert i v m)

end Sys2Proof.Machine
end

