-- ==== Sys2Proof/Machine/Operands.lean ====
section
/-! DEFINITION. What a command or an access reads: byte lanes (R45), the characters of the secret (R24), the key bytes
of a request (R80), and the timestamp of a command (R76). No command has an explicit operand (R62). -/

namespace Sys2Proof.Machine

/-- A bus word from its four lanes, byte 0 in the low bits (R45). -/
def ofLanes (b0 b1 b2 b3 : Byte) : Word := b3 ++ b2 ++ b1 ++ b0

/-- Lane j of a bus word: bits 8j+7 to 8j (R45). -/
def lane (v : Word) (j : Nat) : Byte := v.extractLsb' (8 * j) 8

/-- The four lanes of a bus word, lane 0 first. -/
def lanes (v : Word) : Bytes := [lane v 0, lane v 1, lane v 2, lane v 3]

/-- The low word of a 64-bit register (R49). -/
def loWord (t : Stamp) : Word := t.extractLsb' 0 32

/-- The high word of a 64-bit register (R49). -/
def hiWord (t : Stamp) : Word := t.extractLsb' 32 32

/-- SECRET_BUF[i]: the written character, or the unspecified one (R24). -/
def readChar (s : State) (i : Nat) : Byte :=
  (Memory.lookup s.secretBuf i).getD (Config.freeChar s.epoch i)

/-- SECRET_BUF[0 .. SECRET_LEN) (R73). -/
def secretText (s : State) : Bytes := (List.range s.secretLen.toNat).map (readChar s)

/-- SECRET_LEN > SECRET_CAP (R103). -/
def secretTooLong (s : State) : Bool := decide (s.secretCap < s.secretLen.toNat)

/-- KEY_BUF[0 .. KEY_LEN) (R80). -/
def requestKey (s : State) : Bytes := s.keyBuf.take s.keyLen.toNat

/-- Byte i of KEY_BUF as the KEY window shows it: 0x00 from KEY_CAP on (R48). -/
def keyByte (s : State) (i : Nat) : Byte :=
  if i < Config.keyCap s.secretCap then s.keyBuf.getD i 0 else 0

/-- The commands that sample a timestamp: COUNTER, GENERATE, SECREM, RATIO (R106). -/
def usesTime : Instr → Bool
  | .counter | .counterTs | .generate | .generateTs | .secrem | .secremTs | .ratio | .ratioTs => true
  | .decode | .pack | .hmac | .trunc => false

/-- `SampleTime(tsel)` (R76): TS_OVR, or `now_sec`, which is a free draw where nothing drives it (R75). -/
def sampleTime (tsel : Bool) (s : State) : Stamp :=
  if tsel then s.tsOvr
  else match s.nowSec with
    | some t => t
    | none   => Config.freeTime s.draws

/-- Whether SampleTime takes a free value. -/
def sampleDraws (tsel : Bool) (s : State) : Bool := !tsel && s.nowSec.isNone

end Sys2Proof.Machine
end

