-- ==== Sys2Proof/Machine/Ops.lean ====
section
/-! DEFINITION. The named operations on the state: one per register group a rule writes, Accept (R106), Complete
(R107), `raise` (R101), Zeroize (R86) and HmacRequest (R80).
An error is a completion: `raise` is the one operation that every error goes through. There is no return from an error
(R109): the next Accept clears it. -/

namespace Sys2Proof.Machine

/-- `Complete(e)` (R107). -/
def complete (e : Err) (s : State) : State :=
  { s with status := s.status.completed e, phase := .idle, cur := none }

/-- `raise E`: Complete with the code of E (R101). -/
def raise (e : Err) (s : State) : State := complete e s

/-- The first lines of Accept (R106). -/
def offer (w : Word) (s : State) : State :=
  { s with status := s.status.offered (opcodeBits w) }

/-- `T_LAT <- SampleTime(tsel)` (R76). -/
def latchTime (tsel : Bool) (s : State) : State :=
  { s with tLat := sampleTime tsel s, draws := if sampleDraws tsel s then s.draws + 1 else s.draws }

/-- The last lines of Accept: CUR, PHASE and BUSY (R106). -/
def enterExec (i : Instr) (s : State) : State :=
  { s with status := s.status.started, phase := .exec, cur := some i }

/-- Accept of a legal word: a timestamp for the commands that use one, then EXEC (R106). -/
def acceptInstr (i : Instr) (s : State) : State :=
  enterExec i (if usesTime i then latchTime i.fields.tsel s else s)

/-- `Accept(w)` (R106); an illegal word completes at once (R102). -/
def accept (w : Word) (s : State) : State :=
  match decodeWord w with
  | .cmd i     => acceptInstr i (offer w s)
  | .illegal _ => raise .illegalCmd (offer w s)

/-- KEY_BUF and KEY_LEN take a decoded key, zero-filled to KEY_CAP, and INVFMT is noted (R73). -/
def loadKey (k : Bytes) (s : State) : State :=
  { s with
    keyBuf := k ++ zeros (Config.keyCap s.secretCap - k.length)
    keyLen := BitVec.ofNat 10 k.length
    status := s.status.noteFormat s.secretLen.toNat k.length }

/-- `Zeroize()` (R86). -/
def zeroize (s : State) : State :=
  { s with keyBuf := zeros (Config.keyCap s.secretCap), keyLen := 0 }

/-- `TS_USED <- T_LAT` (R77, R95, R96, R97). -/
def recordTime (s : State) : State := { s with tsUsed := s.tLat }

/-- COUNTER <- c (R77). -/
def setCounter (c : Stamp) (s : State) : State := { s with counter := c }

/-- MSG <- m (R79). -/
def setMsg (m : Msg) (s : State) : State := { s with msg := m }

/-- DIGEST <- d (R85). -/
def setDigest (d : Digest) (s : State) : State := { s with digest := d }

/-- OFFSET, BINCODE, CODE and CODE_STR after a truncation (R91). -/
def setTruncation (o : BitVec 4) (b : BitVec 31) (c : BitVec 20) (str : CodeStr) (s : State) : State :=
  { s with offset := o, bincode := b, code := c, codeStr := str }

/-- CODE_STR <- str (R92, R98). -/
def setCodeStr (str : CodeStr) (s : State) : State := { s with codeStr := str }

/-- SECS_REM <- v (R95). -/
def setSecsRem (v : BitVec 5) (s : State) : State := { s with secsRem := v }

/-- RATIO.NUM <- v (R96). -/
def setRatioNum (v : BitVec 5) (s : State) : State := { s with ratioNum := v }

/-- `HmacRequest(KEY_BUF[0 .. KEY_LEN), MSG[0 .. 8))` (R80). -/
def hmacRequest (s : State) : State :=
  { s with
    portReq := some ⟨.sha1, (requestKey s).length, requestKey s, 8, s.msg⟩
    outstanding := true
    phase := .wait }

/-- Taking a response: OUTSTANDING <- 0, and the request has left the port (R81, log 8). -/
def takeResponse (s : State) : State := { s with outstanding := false, portReq := none }

/-- A dropped host write: STATUS.OVR <- 1 (R42, R110). -/
def dropWrite (s : State) : State := { s with status := s.status.dropped }

/-- SECRET_LEN <- v[10:0] (R23). -/
def setSecretLen (v : Word) (s : State) : State := { s with secretLen := v.extractLsb' 0 11 }

/-- TS_OVR[31:0] <- v (R25). -/
def setTsOvrLo (v : Word) (s : State) : State := { s with tsOvr := hiWord s.tsOvr ++ v }

/-- TS_OVR[63:32] <- v (R25). -/
def setTsOvrHi (v : Word) (s : State) : State := { s with tsOvr := v ++ loWord s.tsOvr }

/-- The four characters of SECRET window word w <- the lanes of v (R47). -/
def setSecretWord (w : Nat) (v : Word) (s : State) : State :=
  { s with secretBuf := Memory.insertAll (4 * w) (lanes v) s.secretBuf }

/-- Applying the reset input (R119, R120): every register and hidden state takes its reset value, SECRET_BUF becomes
unspecified anew, the request is abandoned. SECRET_CAP is hardwired; the `now_sec` input, the host's program and read
data, the moves still to come and the draw counter are not the core's registers (log 12). -/
def applyReset (s : State) : State :=
  { State.resetWith s.secretCap with
    nowSec := s.nowSec, readData := s.readData, host := s.host, inputs := s.inputs, draws := s.draws
    epoch := s.epoch + 1 }

end Sys2Proof.Machine
end

