-- ==== Sys2Proof/Machine/RegMap.lean ====
section
/-! DEFINITION. The register map of R43: what a byte offset names. -/

namespace Sys2Proof.Machine

/-- An entry of the register map (R43). -/
inductive BusReg where
  | cmd
  | status
  | config
  | secretLen
  | tsOvrLo
  | tsOvrHi
  | tsUsedLo
  | tsUsedHi
  | counterLo
  | counterHi
  | msgW0
  | msgW1
  | keyLen
  | offset
  | bincode
  | code
  | codeStrW0
  | codeStrW1
  | secsRem
  | ratio
  /-- DIGEST_W0 to DIGEST_W4 -/
  | digest (k : Fin 5)
  /-- SECRET window word w; reserved from word SECRET_CAP / 4 on (R47) -/
  | secretWin (w : Nat)
  /-- KEY window word w (R48) -/
  | keyWin (w : Nat)
  | reserved
  deriving DecidableEq, Repr

/-- The map at a word-aligned byte offset (R43). -/
def regAt (a : Nat) : BusReg :=
  match a with
  | 0x000 => .cmd
  | 0x004 => .status
  | 0x008 => .config
  | 0x00C => .secretLen
  | 0x010 => .tsOvrLo
  | 0x014 => .tsOvrHi
  | 0x018 => .tsUsedLo
  | 0x01C => .tsUsedHi
  | 0x020 => .counterLo
  | 0x024 => .counterHi
  | 0x028 => .msgW0
  | 0x02C => .msgW1
  | 0x030 => .keyLen
  | 0x034 => .offset
  | 0x038 => .bincode
  | 0x03C => .code
  | 0x040 => .codeStrW0
  | 0x044 => .codeStrW1
  | 0x048 => .secsRem
  | 0x04C => .ratio
  | 0x060 => .digest 0
  | 0x064 => .digest 1
  | 0x068 => .digest 2
  | 0x06C => .digest 3
  | 0x070 => .digest 4
  | a =>
    if 0x400 ≤ a ∧ a < 0x800 then .secretWin ((a - 0x400) / 4)
    else if 0x800 ≤ a ∧ a < 0xA80 then .keyWin ((a - 0x800) / 4)
    else .reserved

/-- The register an access reaches: a = off & 0xFFC (R41, R42, R44). -/
def regOf (off : Offset) : BusReg := regAt (off &&& 0xFFC).toNat

/-- Whether SECRET window word w is mapped: w < SECRET_CAP / 4 (R47). -/
def secretMapped (cap w : Nat) : Bool := decide (w < cap / 4)

end Sys2Proof.Machine
end

