-- ==== Sys2Proof/Machine/Bus.lean ====
section
/-! DEFINITION. Host accesses over the register bus: MemRead (R41), MemWrite (R42), and the host's turn, which makes the
next access of its program (R52, R67). -/

namespace Sys2Proof.Machine

/-- The word CONFIG reads as: STEP 30, DIGITS 6, ALG 1 and SECRET_CAP (R22). -/
def configWord (cap : Nat) : Word := 0#5 ++ BitVec.ofNat 11 cap ++ 1#4 ++ 6#4 ++ 30#8

/-- The word RATIO reads as, with DEN hardwired to 30 (R37). -/
def ratioWord (num : BitVec 5) : Word := 0#19 ++ 30#5 ++ 0#3 ++ num

/-- The word each register holds (R43, R45). -/
def regWord (s : State) : BusReg → Word
  | .cmd         => 0
  | .status      => statusWord s.status
  | .config      => configWord s.secretCap
  | .secretLen   => s.secretLen.setWidth 32
  | .tsOvrLo     => loWord s.tsOvr
  | .tsOvrHi     => hiWord s.tsOvr
  | .tsUsedLo    => loWord s.tsUsed
  | .tsUsedHi    => hiWord s.tsUsed
  | .counterLo   => loWord s.counter
  | .counterHi   => hiWord s.counter
  | .msgW0       => ofLanes s.msg[0] s.msg[1] s.msg[2] s.msg[3]
  | .msgW1       => ofLanes s.msg[4] s.msg[5] s.msg[6] s.msg[7]
  | .keyLen      => s.keyLen.setWidth 32
  | .offset      => s.offset.setWidth 32
  | .bincode     => s.bincode.setWidth 32
  | .code        => s.code.setWidth 32
  | .codeStrW0   => ofLanes s.codeStr[0] s.codeStr[1] s.codeStr[2] s.codeStr[3]
  | .codeStrW1   => ofLanes s.codeStr[4] s.codeStr[5] 0 0
  | .secsRem     => s.secsRem.setWidth 32
  | .ratio       => ratioWord s.ratioNum
  | .digest k    => ofLanes s.digest[4 * k.val] s.digest[4 * k.val + 1] s.digest[4 * k.val + 2] s.digest[4 * k.val + 3]
  | .secretWin w =>
    if secretMapped s.secretCap w then
      ofLanes (readChar s (4 * w)) (readChar s (4 * w + 1)) (readChar s (4 * w + 2)) (readChar s (4 * w + 3))
    else 0
  | .keyWin w    => ofLanes (keyByte s (4 * w)) (keyByte s (4 * w + 1)) (keyByte s (4 * w + 2)) (keyByte s (4 * w + 3))
  | .reserved    => 0

/-- One lane of the KEY window's result bits: 0xFF where the lane is a byte of KEY_BUF (R48). -/
def keyLaneMask (cap i : Nat) : Byte := if i < Config.keyCap cap then 0xFF else 0

/-- The bits of a result register that hold its result, and are unspecified while PHASE is not IDLE (R40); 0 for a
register that is exact at all times. Bits that read 0 and RATIO.DEN are hardwired and stay exact (log 13). -/
def resultBits (cap : Nat) : BusReg → Word
  | .tsUsedLo | .tsUsedHi | .counterLo | .counterHi | .msgW0 | .msgW1 | .codeStrW0 | .digest _ => 0xFFFFFFFF
  | .keyLen    => 0x000003FF
  | .offset    => 0x0000000F
  | .bincode   => 0x7FFFFFFF
  | .code      => 0x000FFFFF
  | .codeStrW1 => 0x0000FFFF
  | .secsRem   => 0x0000001F
  | .ratio     => 0x0000001F
  | .keyWin w  =>
    ofLanes (keyLaneMask cap (4 * w)) (keyLaneMask cap (4 * w + 1)) (keyLaneMask cap (4 * w + 2)) (keyLaneMask cap (4 * w + 3))
  | .cmd | .status | .config | .secretLen | .tsOvrLo | .tsOvrHi | .secretWin _ | .reserved => 0

/-- Whether reading a register takes a free value: a result register, while PHASE is not IDLE (R40). -/
def readsFree (s : State) (r : BusReg) : Bool := decide (s.phase ≠ .idle) && resultBits s.secretCap r != 0

/-- The word a host read of a register returns (R40, R41). -/
def readReg (s : State) (r : BusReg) : Word :=
  if readsFree s r then
    (regWord s r &&& ~~~ resultBits s.secretCap r) ||| (Config.freeWord s.draws &&& resultBits s.secretCap r)
  else regWord s r

/-- `MemRead(off, 4)`: the word returned (R41). -/
def memRead (s : State) (off : Offset) : Word := readReg s (regOf off)

/-- A host read: the word goes to the host, and no register changes (R41, R51). -/
def hostRead (off : Offset) (s : State) : State :=
  { s with
    readData := some (memRead s off)
    draws := if readsFree s (regOf off) then s.draws + 1 else s.draws }

/-- A write of an input register: dropped with OVR while PHASE is not IDLE (R42, R110). -/
def writeInput (f : State → State) (s : State) : State :=
  if s.phase = .idle then f s else dropWrite s

/-- `MemWrite(off, 4, v)` (R42). -/
def memWrite (off : Offset) (v : Word) (s : State) : State :=
  match regOf off with
  | .cmd         => writeInput (accept v) s
  | .secretLen   => writeInput (setSecretLen v) s
  | .tsOvrLo     => writeInput (setTsOvrLo v) s
  | .tsOvrHi     => writeInput (setTsOvrHi v) s
  | .secretWin w => if secretMapped s.secretCap w then writeInput (setSecretWord w v) s else s
  | .status | .config | .tsUsedLo | .tsUsedHi | .counterLo | .counterHi | .msgW0 | .msgW1 | .keyLen | .offset
  | .bincode | .code | .codeStrW0 | .codeStrW1 | .secsRem | .ratio | .digest _ | .keyWin _ | .reserved => s

/-- The host's turn: the next access of its program, in order (R52). A POLL reads STATUS, and stays the next step of the
program while bit 0 (BUSY) of the word reads 1 (R67). A host whose program has ended does nothing. -/
def hostTurn (s : State) : State :=
  match s.host with
  | []                  => s
  | .read off :: ops    => hostRead off { s with host := ops }
  | .write off v :: ops => memWrite off v { s with host := ops }
  | .poll :: ops        => hostRead 0x004 { s with host := if (memRead s 0x004).getLsbD 0 then .poll :: ops else ops }

end Sys2Proof.Machine
end

