-- ==== Sys2Proof/Machine/Base32.lean ====
section
/-! DEFINITION. The Base32 decoder (40_base32_decoder.md): the serial unpacker the core runs (R71), the bit string R71
defines it by, and the RFC 4648 encoding of R74. -/

namespace Sys2Proof.Machine

/-- Uppercasing, ASCII only (R70). -/
def foldCase (c : Byte) : Byte := if 0x61 ≤ c.toNat ∧ c.toNat ≤ 0x7A then c - 0x20 else c

/-- The filter on one character: folded, then kept if it is A to Z or 2 to 7 (R70). -/
def sanitizeChar (c : Byte) : Option Byte :=
  let u := foldCase c
  if (0x41 ≤ u.toNat ∧ u.toNat ≤ 0x5A) ∨ (0x32 ≤ u.toNat ∧ u.toNat ≤ 0x37) then some u else none

/-- The sanitized characters of a secret, in order (R70). -/
def sanitize (s : Bytes) : Bytes := s.filterMap sanitizeChar

/-- The 5-bit index of a sanitized character (R69). -/
def b32val (c : Byte) : Nat := if 0x41 ≤ c.toNat then c.toNat - 0x41 else c.toNat - 0x32 + 26

/-- The serial unpacker of R71: `acc` holds the `n` bits not yet given out. Dropped characters change nothing. -/
def b32unpack : Nat → Nat → Bytes → Bytes
  | _, _, [] => []
  | acc, n, c :: cs =>
    match sanitizeChar c with
    | none   => b32unpack acc n cs
    | some u =>
      let acc' := (acc <<< 5) ||| b32val u
      let n' := n + 5
      if 8 ≤ n' then
        BitVec.ofNat 8 ((acc' >>> (n' - 8)) &&& 0xFF)
          :: b32unpack (acc' &&& ((1 <<< (n' - 8)) - 1)) (n' - 8) cs
      else b32unpack acc' n' cs

/-- `b32decode(s)` (R71). -/
def b32decode (s : Bytes) : Bytes := b32unpack 0 0 s

/-! ### The bit string of R71 and the encoding of R74 -/

/-- The low `k` bits of a value, MSB first. -/
def bitsMsb (k v : Nat) : List Bool := (List.range k).map fun i => v.testBit (k - 1 - i)

/-- The value of a bit list read MSB first. -/
def ofBitsMsb (bs : List Bool) : Nat := bs.foldl (fun v b => 2 * v + b.toNat) 0

/-- The 5m-bit string B of the sanitized characters (R71). -/
def b32bits (s : Bytes) : List Bool := (sanitize s).flatMap fun c => bitsMsb 5 (b32val c)

/-- Slicing a bit string into bytes from the start; a trailing group shorter than 8 bits is discarded (R71). -/
def bytesOfBits : List Bool → Bytes
  | b7 :: b6 :: b5 :: b4 :: b3 :: b2 :: b1 :: b0 :: rest =>
    BitVec.ofNat 8 (ofBitsMsb [b7, b6, b5, b4, b3, b2, b1, b0]) :: bytesOfBits rest
  | _ => []

/-- The bits of a byte sequence, MSB first (R74). -/
def bitsOfBytes (b : Bytes) : List Bool := b.flatMap fun x => bitsMsb 8 x.toNat

/-- Bits in groups of 5, the last zero-padded, each as its value (R74). -/
def groupsOf5 : List Bool → List Nat
  | b4 :: b3 :: b2 :: b1 :: b0 :: rest => ofBitsMsb [b4, b3, b2, b1, b0] :: groupsOf5 rest
  | [] => []
  | short => [ofBitsMsb (short ++ List.replicate (5 - short.length) false)]

/-- The character of a 5-bit index (R69). -/
def b32char (v : Nat) : Byte := if v < 26 then BitVec.ofNat 8 (0x41 + v) else BitVec.ofNat 8 (0x32 + v - 26)

/-- E(b), the RFC 4648 encoding without padding (R74, general knowledge GK2). -/
def b32encode (b : Bytes) : Bytes := (groupsOf5 (bitsOfBytes b)).map b32char

/-- The padding character '=' (R11). -/
def padChar : Byte := 0x3D

end Sys2Proof.Machine
end

