-- ==== Sys2Proof/Machine/Decoder.lean ====
section
/-! DEFINITION. The command DECODE (R73). -/

namespace Sys2Proof.Machine

/-- The decode stage: KEY_BUF, KEY_LEN and INVFMT from the secret (R73). -/
def decodeSecret (s : State) : State := loadKey (b32decode (secretText s)) s

/-- DECODE (R73, R103). -/
def execDecode (s : State) : Host.Outcome State Fault Refusal :=
  if secretTooLong s then .next (raise .secretTooLong s)
  else .next (complete .none (decodeSecret s))

end Sys2Proof.Machine
end

