-- ==== Sys2Proof/Machine/Hmac.lean ====
section
/-! DEFINITION. The HMAC-SHA1 wrapper: the command HMAC and its completion by the provider's response (R80 to R86). -/

namespace Sys2Proof.Machine

/-- HMAC in PHASE = EXEC: the request is issued (R85). -/
def execHmac (s : State) : Host.Outcome State Fault Refusal := .next (hmacRequest s)

/-- HMAC in PHASE = WAIT, on the provider's response (R85). -/
def finishHmac (a : Answer) (s : State) : State :=
  match a with
  | .ok d        => complete .none (zeroize (setDigest d s))
  | .unavailable => raise .primitiveUnavailable (zeroize s)

/-- The response of a conforming provider: OK(HMAC_FN(key, message)) of the request it holds (R82). -/
def conformingAnswer (s : State) : Option Answer :=
  s.portReq.map fun r => .ok (Config.hmacFn r.key r.msg)

end Sys2Proof.Machine
end

