-- ==== Sys2Proof/Machine/TimeCounter.lean ====
section
/-! DEFINITION. The time counter: COUNTER (R77) and PACK (R78, R79). -/

namespace Sys2Proof.Machine

/-- T div 30 (R77). -/
def timeCounter (t : Stamp) : Stamp := BitVec.ofNat 64 (t.toNat / Config.stepSeconds)

/-- Byte i of a counter, counted from its least significant byte. -/
def counterByte (c : Stamp) (i : Nat) : Byte := c.extractLsb' (8 * i) 8

/-- `be64(c)`: b[0] = c[63:56], …, b[7] = c[7:0] (R78). -/
def be64 (c : Stamp) : Msg :=
  #v[counterByte c 7, counterByte c 6, counterByte c 5, counterByte c 4,
     counterByte c 3, counterByte c 2, counterByte c 1, counterByte c 0]

/-- The counter stage (R77). -/
def countTime (s : State) : State := setCounter (timeCounter s.tLat) (recordTime s)

/-- The packing stage (R79). -/
def packCounter (s : State) : State := setMsg (be64 s.counter) s

/-- COUNTER (R77): T_LAT was sampled from `now_sec` at Accept. -/
def execCounter (s : State) : Host.Outcome State Fault Refusal := .next (complete .none (countTime s))

/-- COUNTER.TS (R77): T_LAT was taken from TS_OVR at Accept. -/
def execCounterTs (s : State) : Host.Outcome State Fault Refusal := .next (complete .none (countTime s))

/-- PACK (R79). -/
def execPack (s : State) : Host.Outcome State Fault Refusal := .next (complete .none (packCounter s))

end Sys2Proof.Machine
end

