-- ==== Sys2Proof/Machine/Truncator.lean ====
section
/-! DEFINITION. The dynamic truncator and its command TRUNC (43_dynamic_truncator.md). -/

namespace Sys2Proof.Machine

/-- The offset: the low nibble of the last digest byte (R87). -/
def truncOffset (d : Digest) : BitVec 4 := d[19].setWidth 4

/-- The 31-bit binary code, big-endian from the window, its top bit masked off (R88). -/
def binaryCode (d : Digest) : BitVec 31 :=
  let o := (truncOffset d).toNat
  have _h : o < 16 := (truncOffset d).isLt
  d[o].setWidth 7 ++ d[o + 1] ++ d[o + 2] ++ d[o + 3]

/-- `binaryCode mod 10^6` (R89). -/
def codeOf (b : BitVec 31) : BitVec 20 := BitVec.ofNat 20 (b.toNat % Config.codeModulus)

/-- The ASCII digit of n with weight 10^k (R90). -/
def digitChar (n k : Nat) : Byte := BitVec.ofNat 8 (0x30 + n / 10 ^ k % 10)

/-- `fmt6(n)`: the zero-padded decimal string, most significant digit first (R90). -/
def fmt6 (n : Nat) : CodeStr :=
  #v[digitChar n 5, digitChar n 4, digitChar n 3, digitChar n 2, digitChar n 1, digitChar n 0]

/-- The failure sentinel "------" (R92). -/
def sentinel : CodeStr := #v[0x2D, 0x2D, 0x2D, 0x2D, 0x2D, 0x2D]

/-- The truncation stage, from DIGEST (R91). -/
def truncateDigest (s : State) : State :=
  setTruncation (truncOffset s.digest) (binaryCode s.digest) (codeOf (binaryCode s.digest))
    (fmt6 (codeOf (binaryCode s.digest)).toNat) s

/-- TRUNC (R91). -/
def execTrunc (s : State) : Host.Outcome State Fault Refusal := .next (complete .none (truncateDigest s))

end Sys2Proof.Machine
end

