-- ==== Sys2Proof/Machine/Generate.lean ====
section
/-! DEFINITION. End-to-end code generation: GENERATE (R97, R98). -/

namespace Sys2Proof.Machine

/-- GENERATE in PHASE = EXEC: decode, counter, pack and the request, or the error exit (R97). -/
def generateStages (s : State) : State :=
  if secretTooLong s then raise .secretTooLong (setCodeStr sentinel s)
  else hmacRequest (packCounter (countTime (decodeSecret s)))

/-- GENERATE (R97): T_LAT was sampled from `now_sec` at Accept. -/
def execGenerate (s : State) : Host.Outcome State Fault Refusal := .next (generateStages s)

/-- GENERATE.TS (R97): T_LAT was taken from TS_OVR at Accept. -/
def execGenerateTs (s : State) : Host.Outcome State Fault Refusal := .next (generateStages s)

/-- GENERATE in PHASE = WAIT, on the provider's response (R97). -/
def finishGenerate (a : Answer) (s : State) : State :=
  match a with
  | .ok d        => complete .none (zeroize (truncateDigest (setDigest d s)))
  | .unavailable => raise .primitiveUnavailable (zeroize (setCodeStr sentinel s))

end Sys2Proof.Machine
end

