-- ==== Sys2Proof/Machine/TimerView.lean ====
section
/-! DEFINITION. The timer view: SECREM (R95) and RATIO (R96). -/

namespace Sys2Proof.Machine

/-- `secrem(t) = 30 − (t mod 30)` (R94). -/
def secrem (t : Stamp) : Nat := Config.stepSeconds - t.toNat % Config.stepSeconds

/-- The remaining-seconds stage (R95). -/
def viewSeconds (s : State) : State := setSecsRem (BitVec.ofNat 5 (secrem s.tLat)) (recordTime s)

/-- The ratio stage (R96). -/
def viewRatio (s : State) : State := setRatioNum (BitVec.ofNat 5 (secrem s.tLat)) (recordTime s)

/-- SECREM (R95): T_LAT was sampled from `now_sec` at Accept. -/
def execSecrem (s : State) : Host.Outcome State Fault Refusal := .next (complete .none (viewSeconds s))

/-- SECREM.TS (R95): T_LAT was taken from TS_OVR at Accept. -/
def execSecremTs (s : State) : Host.Outcome State Fault Refusal := .next (complete .none (viewSeconds s))

/-- RATIO (R96): T_LAT was sampled from `now_sec` at Accept. -/
def execRatio (s : State) : Host.Outcome State Fault Refusal := .next (complete .none (viewRatio s))

/-- RATIO.TS (R96): T_LAT was taken from TS_OVR at Accept. -/
def execRatioTs (s : State) : Host.Outcome State Fault Refusal := .next (complete .none (viewRatio s))

end Sys2Proof.Machine
end

