-- ==== Sys2Proof/Machine/Dispatch.lean ====
section
/-! DEFINITION. The core's EXEC step of each command (R39): one arm per constructor. -/

namespace Sys2Proof.Machine

def exec (i : Instr) (s : State) : Host.Outcome State Fault Refusal :=
  match i with
  | .decode => Sys2Proof.Machine.execDecode s
  | .counter => Sys2Proof.Machine.execCounter s
  | .counterTs => Sys2Proof.Machine.execCounterTs s
  | .pack => Sys2Proof.Machine.execPack s
  | .hmac => Sys2Proof.Machine.execHmac s
  | .trunc => Sys2Proof.Machine.execTrunc s
  | .generate => Sys2Proof.Machine.execGenerate s
  | .generateTs => Sys2Proof.Machine.execGenerateTs s
  | .secrem => Sys2Proof.Machine.execSecrem s
  | .secremTs => Sys2Proof.Machine.execSecremTs s
  | .ratio => Sys2Proof.Machine.execRatio s
  | .ratioTs => Sys2Proof.Machine.execRatioTs s

end Sys2Proof.Machine
end

