-- ==== Sys2Proof/Machine/Agents.lean ====
section
/-! DEFINITION. The moves of the agents (R112): the core's step, the provider's response, the host's turn, the time
source and reset. -/

namespace Sys2Proof.Machine

/-- The core's own step (R39): in EXEC it runs CUR; in IDLE and WAIT none is enabled and nothing changes (R118, R126). -/
def coreStep (s : State) : Host.Outcome State Fault Refusal :=
  match s.phase with
  | .idle => .next s
  | .wait => .next s
  | .exec =>
    match s.cur with
    | some i => exec i s
    | none   => .fault .noCurrentCommand

/-- The running command continues with its completion on a response (R81, R85, R97). -/
def finish (a : Answer) (s : State) : Host.Outcome State Fault Refusal :=
  match s.cur with
  | some .hmac       => .next (finishHmac a s)
  | some .generate   => .next (finishGenerate a s)
  | some .generateTs => .next (finishGenerate a s)
  | some .decode | some .counter | some .counterTs | some .pack | some .trunc | some .secrem | some .secremTs
  | some .ratio | some .ratioTs | none => .fault .noCommandAwaitsResponse

/-- The provider's response: admitted only while OUTSTANDING = 1 (R81), else without effect (R84). -/
def respond (a : Answer) (s : State) : Host.Outcome State Fault Refusal :=
  if s.outstanding then finish a (takeResponse s) else .next s

/-- One move of one agent. -/
def act (m : Move) (s : State) : Host.Outcome State Fault Refusal :=
  match m with
  | .host        => .next (hostTurn s)
  | .core        => coreStep s
  | .respond a   => respond a s
  | .respondHmac =>
    match conformingAnswer s with
    | some a => respond a s
    | none   => .next s
  | .drive now   => .next { s with nowSec := now }
  | .reset       => .next (applyReset s)

/-- One step of the interleaving: the next move of inputs, or the core's own step where none is listed (log 2). -/
def stepMove (s : State) : Host.Outcome State Fault Refusal :=
  match s.inputs with
  | []        => coreStep s
  | m :: rest => act m { s with inputs := rest }

/-- A core made ready to accept a command: IDLE, with no command and no request (R14, R106). -/
def idled (s : State) : State :=
  { s with
    status := { s.status with busy := false }
    phase := .idle
    cur := none
    outstanding := false
    portReq := none }

/-- The state in which the command word has been accepted and the core's EXEC step comes next (log 11). -/
def commandAccepted (w : Word) (s : State) : State :=
  let t := accept w (idled s)
  { t with inputs := .core :: t.inputs }

end Sys2Proof.Machine
end

