-- ==== Sys2Proof/Machine/Step.lean ====
section
/-! DEFINITION. The step of the machine, and placing a command where the next step runs it. -/

namespace Sys2Proof.Machine

/-- One step of the interleaving of the agents (R112). -/
def step (s : State) : Host.Outcome State Fault Refusal := stepMove s

/-- The state whose very next step is the EXEC step of the command in the word `w` of `nbits` bits (log 11). -/
def State.withFetchWord (s : State) (nbits w : Nat) : State :=
  commandAccepted (BitVec.ofNat 32 (w % 2 ^ nbits)) s

end Sys2Proof.Machine
end

