-- ==== Sys2Proof/Machine/HostProgram.lean ====
section
/-! DEFINITION. The host program syntax (R66) and the expansion of its pseudo-instructions (R67) into the steps of the
host's program, which hostTurn runs, and the moves a listing shows. -/

namespace Sys2Proof.Machine

/-- The byte offset of SECRET window word w (R47). -/
def secretWordOffset (w : Nat) : Offset := BitVec.ofNat 12 (0x400 + 4 * w)

/-- The writes of SECRET window words from w on; bytes beyond the text are 0x00 (R67). -/
def secretWrites (w : Nat) : Bytes → List HostStep
  | [] => []
  | c0 :: c1 :: c2 :: c3 :: rest =>
    .write (secretWordOffset w) (ofLanes c0 c1 c2 c3) :: secretWrites (w + 1) rest
  | short =>
    [.write (secretWordOffset w) (ofLanes (short.getD 0 0) (short.getD 1 0) (short.getD 2 0) 0)]

/-- `LDSECRET "s"` (R67). -/
def ldSecret (text : Bytes) : List HostStep :=
  secretWrites 0 text ++ [.write 0x00C (BitVec.ofNat 32 text.length)]

/-- `LDTS t` (R67). -/
def ldTs (t : Stamp) : List HostStep := [.write 0x010 (loWord t), .write 0x014 (hiWord t)]

/-- The expansion of one line of a host program (R66, R67). RSP is no step of the host: the provider acts. -/
def hostSteps : HostOp → List HostStep
  | .wr off v    => [.write off v]
  | .rd off      => [.read off]
  | .cmd i       => [.write 0x000 (encode i)]
  | .poll        => [.poll]
  | .ldsecret t  => ldSecret t
  | .ldts t      => ldTs t
  | .rsp _       => []

/-- The moves of one line: a turn of the host for each of its steps, and the response of RSP. A POLL that reads BUSY = 1
takes more turns; which, and the core's steps, are the interleaving's (R112, log 15). -/
def lineMoves : HostOp → List Move
  | .rsp a => [.respond a]
  | op     => List.replicate (hostSteps op).length .host

/-- The steps of a host program, in its order (R52, R66). -/
def programSteps (p : List HostOp) : List HostStep := p.flatMap hostSteps

end Sys2Proof.Machine
end

