-- ==== Sys2Proof/Safety.lean ====
section
/-! DEFINITION. What claims are stated in: the invariant of the machine, and the groups of registers a frame names. -/

namespace Sys2Proof.Machine

/-- CODE_STR holds its reset value, the sentinel, or the digits of CODE (R13, R35, R92). -/
abbrev codeStrLegal (s : State) : Prop :=
  s.codeStr = Vector.replicate 6 0 ∨ s.codeStr = sentinel ∨ s.codeStr = fmt6 s.code.toNat

/-- The command an outstanding request belongs to (R80). -/
abbrev awaitsProvider (i : Instr) : Prop := i = .hmac ∨ i = .generate ∨ i = .generateTs

/-- The request HmacRequest issues from the registers (R80). -/
def requestOf (s : State) : HmacReq := ⟨.sha1, (requestKey s).length, requestKey s, 8, s.msg⟩

/-- What holds of every state a run from reset reaches. -/
structure State.Inv (s : State) : Prop where
  /-- SECRET_CAP is a value R6 allows -/
  capLegal : Config.legalCap s.secretCap = true
  /-- SECRET_BUF is in canonical form (log 5) -/
  bufWf : Memory.wf s.secretBuf
  /-- SECRET_BUF holds SECRET_CAP characters (R24) -/
  bufBound : ∀ c ∈ s.secretBuf, c.1 < s.secretCap
  /-- KEY_BUF holds KEY_CAP bytes (R30) -/
  keyBufLength : s.keyBuf.length = Config.keyCap s.secretCap
  /-- KEY_LEN is 0 to KEY_CAP (R29) -/
  keyLenBound : s.keyLen.toNat ≤ Config.keyCap s.secretCap
  /-- KEY_BUF is zero past KEY_LEN (R73, R86) -/
  keyPadded : s.keyBuf.drop s.keyLen.toNat = zeros (Config.keyCap s.secretCap - s.keyLen.toNat)
  /-- BUSY reads 1 exactly when PHASE is not IDLE (R16) -/
  busyIff : s.status.busy = true ↔ s.phase ≠ .idle
  /-- DONE and BUSY are never both 1 (R17, R106, R107) -/
  doneNotBusy : s.status.done = true → s.status.busy = false
  /-- codes 4 to 7 are never produced (R18) -/
  errProduced : s.status.err.toNat ≤ 3
  /-- ERR is 0 until a completion (R106) -/
  errWhenDone : s.status.done = false → s.status.err = 0
  /-- INVFMT stands only with ERR = 0 or 1 (R105) -/
  invfmtErr : s.status.invfmt = true → s.status.err = 0 ∨ s.status.err = 1
  /-- INVFMT is 0 until a command's decode stage has run (R19, R106) -/
  invfmtExec : s.phase = .exec → s.status.invfmt = false
  /-- a command is current exactly when PHASE is not IDLE (R38, R106, R107) -/
  curIff : s.cur.isSome = true ↔ s.phase ≠ .idle
  /-- LASTOP names the running command (R21) -/
  lastopCur : ∀ i, s.cur = some i → s.status.lastop = i.fields.opc
  /-- only HMAC and GENERATE reach WAIT (R39) -/
  waitCur : s.phase = .wait → ∃ i, s.cur = some i ∧ awaitsProvider i
  /-- a request is outstanding exactly in WAIT (R39, R80, R81) -/
  outstandingIff : s.outstanding = true ↔ s.phase = .wait
  /-- the port holds the request of the registers exactly while it is outstanding (R80, log 8) -/
  portAgrees : s.portReq = if s.outstanding then some (requestOf s) else none
  /-- COUNTER is at most (2^64 - 1) div 30 (R27) -/
  counterBound : s.counter.toNat ≤ 0x0888888888888888
  /-- CODE is BINCODE mod 10^6 (R34, R89) -/
  codeReduced : s.code.toNat = s.bincode.toNat % 1000000
  /-- CODE_STR is never anything else (R35) -/
  codeStrOk : codeStrLegal s
  /-- SECS_REM is 0 to 30 (R36) -/
  secsRemBound : s.secsRem.toNat ≤ 30
  /-- RATIO.NUM is 0 to 30 (R37) -/
  ratioNumBound : s.ratioNum.toNat ≤ 30

/-- The input registers, the parameter and SECRET_BUF are the same: no command writes them (R62). -/
structure SameInputs (s t : State) : Prop where
  secretCap : t.secretCap = s.secretCap
  secretLen : t.secretLen = s.secretLen
  secretBuf : t.secretBuf = s.secretBuf
  tsOvr     : t.tsOvr = s.tsOvr
  epoch     : t.epoch = s.epoch

/-- The input port, T_LAT and the model's own fields are the same. -/
structure SamePorts (s t : State) : Prop where
  tLat     : t.tLat = s.tLat
  nowSec   : t.nowSec = s.nowSec
  readData : t.readData = s.readData
  host     : t.host = s.host
  inputs   : t.inputs = s.inputs
  draws    : t.draws = s.draws

/-- The key registers are the same. -/
structure SameKey (s t : State) : Prop where
  keyLen : t.keyLen = s.keyLen
  keyBuf : t.keyBuf = s.keyBuf

/-- TS_USED, COUNTER and MSG are the same. -/
structure SameCounters (s t : State) : Prop where
  tsUsed  : t.tsUsed = s.tsUsed
  counter : t.counter = s.counter
  msg     : t.msg = s.msg

/-- DIGEST, OFFSET, BINCODE and CODE are the same. -/
structure SameDigest (s t : State) : Prop where
  digest  : t.digest = s.digest
  offset  : t.offset = s.offset
  bincode : t.bincode = s.bincode
  code    : t.code = s.code

/-- SECS_REM and RATIO.NUM are the same. -/
structure SameView (s t : State) : Prop where
  secsRem  : t.secsRem = s.secsRem
  ratioNum : t.ratioNum = s.ratioNum

/-- OUTSTANDING and the provider port are the same. -/
structure SameRequest (s t : State) : Prop where
  outstanding : t.outstanding = s.outstanding
  portReq     : t.portReq = s.portReq

/-- Every register of the core is the same; the model's own fields may differ. -/
structure SameRegisters (s t : State) : Prop where
  status   : t.status = s.status
  phase    : t.phase = s.phase
  cur      : t.cur = s.cur
  codeStr  : t.codeStr = s.codeStr
  tLat     : t.tLat = s.tLat
  nowSec   : t.nowSec = s.nowSec
  inputsOk : SameInputs s t
  key      : SameKey s t
  counters : SameCounters s t
  digest   : SameDigest s t
  view     : SameView s t
  request  : SameRequest s t

/-- The command has completed with error code e: PHASE, CUR, BUSY, DONE and ERR (R107). -/
structure Completed (e : BitVec 3) (s : State) : Prop where
  phase : s.phase = .idle
  cur   : s.cur = none
  busy  : s.status.busy = false
  done  : s.status.done = true
  err   : s.status.err = e

/-- The fields of STATUS that neither Complete nor a decode writes are the same. -/
structure SameFlags (s t : State) : Prop where
  ovr    : t.status.ovr = s.status.ovr
  lastop : t.status.lastop = s.status.lastop

/-- The key registers are cleared (R86). -/
structure Zeroized (s : State) : Prop where
  keyBuf : s.keyBuf = zeros (Config.keyCap s.secretCap)
  keyLen : s.keyLen = 0

end Sys2Proof.Machine
end

