-- ==== Sys2Proof/Certificates/Slice0/Obligations.lean ====
section
/-! DEFINITION. The statements about the model, one `def Obligations.<Name> : Prop` each, and the words they are stated
in, written out from the spec. -/

open Sys2Proof Sys2Proof.Machine

/-! ### The spec's own words -/

namespace Sys2Proof.Spec

/-- The word-aligned offset an access uses: off & 0xFFC (R41, R42). -/
def busAddr (off : Offset) : Nat := (off &&& 0xFFC).toNat

/-- legal(w), as R63 writes it. -/
def legalWord (w : Word) : Prop :=
  w.extractLsb' 9 23 = 0 ∧
  (1 ≤ (w.extractLsb' 0 8).toNat ∧ (w.extractLsb' 0 8).toNat ≤ 8) ∧
  (w.getLsbD 8 = false ∨ (w.extractLsb' 0 8).toNat ∈ [0x02, 0x06, 0x07, 0x08])

/-- The twelve legal words of R65. -/
def commandWords : List (Word × Instr) :=
  [(0x00000001, .decode), (0x00000002, .counter), (0x00000102, .counterTs), (0x00000003, .pack),
   (0x00000004, .hmac), (0x00000005, .trunc), (0x00000006, .generate), (0x00000106, .generateTs),
   (0x00000007, .secrem), (0x00000107, .secremTs), (0x00000008, .ratio), (0x00000108, .ratioTs)]

/-- A word-aligned offset of the mapped SECRET window (R47). -/
abbrev inSecretWindow (cap a : Nat) : Prop := 0x400 ≤ a ∧ a < 0x800 ∧ (a - 0x400) / 4 < cap / 4

/-- The offsets a host may write: CMD and the inputs (R42). -/
def writable (cap a : Nat) : Prop := a = 0x000 ∨ a = 0x00C ∨ a = 0x010 ∨ a = 0x014 ∨ inSecretWindow cap a

/-- The reserved offsets of R43, R47 and R48. -/
def reservedAddr (cap a : Nat) : Prop :=
  (0x050 ≤ a ∧ a ≤ 0x05C) ∨ (0x074 ≤ a ∧ a ≤ 0x3FC) ∨ (0x400 ≤ a ∧ a ≤ 0x7FC ∧ cap / 4 ≤ (a - 0x400) / 4) ∨
  (0x800 ≤ a ∧ a ≤ 0xA7C ∧ (Config.keyCap cap + 3) / 4 ≤ (a - 0x800) / 4) ∨ 0xA80 ≤ a

/-- The bits of each register that are documented to read 0 (R15, R22, R23, R29, R32 to R37). -/
def readsZero (a : Nat) : Word :=
  match a with
  | 0x004 => 0xFFFF0080
  | 0x008 => 0xF8000000
  | 0x00C => 0xFFFFF800
  | 0x030 => 0xFFFFFC00
  | 0x034 => 0xFFFFFFF0
  | 0x038 => 0x80000000
  | 0x03C => 0xFFF00000
  | 0x044 => 0xFFFF0000
  | 0x048 => 0xFFFFFFE0
  | 0x04C => 0xFFFFE0E0
  | _     => 0

/-- The bits of the word at each offset that hold a result, and are unspecified while PHASE is not IDLE (R40). The bits
that read 0, RATIO.DEN and the lanes past KEY_CAP are not among them: log 13. -/
def freeBits (cap a : Nat) : Word :=
  match a with
  | 0x018 | 0x01C | 0x020 | 0x024 | 0x028 | 0x02C | 0x040 | 0x060 | 0x064 | 0x068 | 0x06C | 0x070 => 0xFFFFFFFF
  | 0x030 => 0x000003FF
  | 0x034 => 0x0000000F
  | 0x038 => 0x7FFFFFFF
  | 0x03C => 0x000FFFFF
  | 0x044 => 0x0000FFFF
  | 0x048 => 0x0000001F
  | 0x04C => 0x0000001F
  | a =>
    if 0x800 ≤ a ∧ a ≤ 0xA7C then
      let lane (j : Nat) : Byte := if a - 0x800 - a % 4 + j < Config.keyCap cap then 0xFF else 0x00
      lane 3 ++ lane 2 ++ lane 1 ++ lane 0
    else 0

/-- The word at each offset, by the map of R43 and the register's own rule (R13 to R37, R45, R47, R48). -/
def mapWord (s : State) (a : Nat) : Word :=
  match a with
  | 0x004 =>
    0#16 ++ s.status.lastop ++ 0#1 ++ BitVec.ofBool s.status.ovr ++ BitVec.ofBool s.status.invfmt ++ s.status.err
      ++ BitVec.ofBool s.status.done ++ BitVec.ofBool s.status.busy
  | 0x008 => 0#5 ++ BitVec.ofNat 11 s.secretCap ++ 1#4 ++ 6#4 ++ 30#8
  | 0x00C => 0#21 ++ s.secretLen
  | 0x010 => s.tsOvr.extractLsb' 0 32
  | 0x014 => s.tsOvr.extractLsb' 32 32
  | 0x018 => s.tsUsed.extractLsb' 0 32
  | 0x01C => s.tsUsed.extractLsb' 32 32
  | 0x020 => s.counter.extractLsb' 0 32
  | 0x024 => s.counter.extractLsb' 32 32
  | 0x028 => s.msg[3] ++ s.msg[2] ++ s.msg[1] ++ s.msg[0]
  | 0x02C => s.msg[7] ++ s.msg[6] ++ s.msg[5] ++ s.msg[4]
  | 0x030 => 0#22 ++ s.keyLen
  | 0x034 => 0#28 ++ s.offset
  | 0x038 => 0#1 ++ s.bincode
  | 0x03C => 0#12 ++ s.code
  | 0x040 => s.codeStr[3] ++ s.codeStr[2] ++ s.codeStr[1] ++ s.codeStr[0]
  | 0x044 => 0#16 ++ s.codeStr[5] ++ s.codeStr[4]
  | 0x048 => 0#27 ++ s.secsRem
  | 0x04C => 0#19 ++ 30#5 ++ 0#3 ++ s.ratioNum
  | 0x060 => s.digest[3] ++ s.digest[2] ++ s.digest[1] ++ s.digest[0]
  | 0x064 => s.digest[7] ++ s.digest[6] ++ s.digest[5] ++ s.digest[4]
  | 0x068 => s.digest[11] ++ s.digest[10] ++ s.digest[9] ++ s.digest[8]
  | 0x06C => s.digest[15] ++ s.digest[14] ++ s.digest[13] ++ s.digest[12]
  | 0x070 => s.digest[19] ++ s.digest[18] ++ s.digest[17] ++ s.digest[16]
  | a =>
    if inSecretWindow s.secretCap a then
      let char (j : Nat) : Byte := readChar s (a - 0x400 - a % 4 + j)
      char 3 ++ char 2 ++ char 1 ++ char 0
    else if 0x800 ≤ a ∧ a ≤ 0xA7C then
      let key (j : Nat) : Byte :=
        if a - 0x800 - a % 4 + j < Config.keyCap s.secretCap then s.keyBuf.getD (a - 0x800 - a % 4 + j) 0 else 0x00
      key 3 ++ key 2 ++ key 1 ++ key 0
    else 0

/-- The next move is the host's, and it writes CMD, which the core takes: an acceptance (R14, R106). -/
def accepts (s : State) : Prop :=
  s.phase = .idle ∧ ∃ off w ops rest, s.inputs = .host :: rest ∧ s.host = .write off w :: ops ∧ busAddr off = 0x000

/-- The next move is a reset. -/
def resets (s : State) : Prop := ∃ rest, s.inputs = .reset :: rest

/-- The core moves next: its turn, or no other agent's move is listed. -/
def coreMoves (s : State) : Prop := s.inputs = [] ∨ ∃ rest, s.inputs = .core :: rest

/-- The next move is the provider's answer `a` (R81, R82). -/
def answers (s : State) (a : Answer) : Prop :=
  (∃ rest, s.inputs = .respond a :: rest) ∨
  ∃ rest r, s.inputs = .respondHmac :: rest ∧ s.portReq = some r ∧ a = .ok (Config.hmacFn r.key r.msg)

/-- The state with the next move taken off inputs. -/
def popped (s : State) : State := { s with inputs := s.inputs.tail }

/-- A move that ends PHASE = WAIT (R83): a response or a reset. -/
def endsWait : Move → Bool
  | .respond _ | .respondHmac | .reset => true
  | .host | .core | .drive _ => false

/-- Where PHASE goes in a step, as R39 lists it. -/
def phaseAfter (s : State) : Phase :=
  let coreTurn :=
    match s.phase, s.cur with
    | .exec, some .hmac => Phase.wait
    | .exec, some .generate | .exec, some .generateTs => if s.secretCap < s.secretLen.toNat then Phase.idle else Phase.wait
    | .exec, _ => Phase.idle
    | p, _ => p
  match s.inputs with
  | [] => coreTurn
  | .core :: _ => coreTurn
  | .host :: _ =>
    match s.host with
    | .write off w :: _ =>
      if s.phase = .idle ∧ busAddr off = 0x000 ∧ w ∈ commandWords.map Prod.fst then .exec else s.phase
    | _ => s.phase
  | .respond _ :: _ | .respondHmac :: _ => if s.phase = .wait then .idle else s.phase
  | .reset :: _ => .idle
  | .drive _ :: _ => s.phase

end Sys2Proof.Spec

open Sys2Proof.Spec

/-! ### Encoding and decoding -/

/-- R65: every word is illegal or exactly one of the twelve. -/
def Obligations.DecodeTotalOnTwelveWords : Prop :=
  (∀ w : Word, ((∃ r, decodeWord w = .illegal r) ∧ w ∉ commandWords.map Prod.fst) ∨
    ∃ i, decodeWord w = .cmd i ∧ ∀ j, (w, j) ∈ commandWords ↔ j = i) ∧
  ∀ (w : Word) (i : Instr), decodeWord w = .cmd i ↔ (w, i) ∈ commandWords

/-- R63: legal(w), and what accepting an illegal word does. -/
def Obligations.LegalExactlyWhenDecoded : Prop :=
  (∀ w : Word, legalWord w ↔ ∃ i, decodeWord w = .cmd i) ∧
  (∀ w : Word, (w.extractLsb' 0 8 = 0 ∨ 0x09 ≤ (w.extractLsb' 0 8).toNat ∨ w.extractLsb' 9 23 ≠ 0 ∨
      (w.getLsbD 8 = true ∧ (w.extractLsb' 0 8).toNat ∈ [0x01, 0x03, 0x04, 0x05])) → ¬ legalWord w) ∧
  ∀ (w : Word) (s : State), ¬ legalWord w → Completed 2 (accept w s)

/-- Decoding and encoding agree: both directions, on every instruction and every word. -/
def Obligations.DecodeEncodeAgree : Prop :=
  (∀ i : Instr, i.wf = true → decodeWord (encode i) = .cmd i) ∧
  (∀ (w : Word) (i : Instr), decodeWord w = .cmd i → encode i = w ∧ i.wf = true) ∧
  ∀ w : Word, (Cmd32.ofWord w).legal = true ↔ ∃ i, decodeWord w = .cmd i

/-- Words written out from R65 decode to the commands they stand for. -/
def Obligations.CommandWordsDecode : Prop :=
  decodeWord 0b00000000000000000000000000000001#32 = .cmd .decode ∧
  decodeWord 0b00000000000000000000000100000010#32 = .cmd .counterTs ∧
  decodeWord 0b00000000000000000000000000000011#32 = .cmd .pack ∧
  decodeWord 0b00000000000000000000000000000100#32 = .cmd .hmac ∧
  decodeWord 0b00000000000000000000000000000101#32 = .cmd .trunc ∧
  decodeWord 0b00000000000000000000000100000110#32 = .cmd .generateTs ∧
  decodeWord 0b00000000000000000000000000000111#32 = .cmd .secrem ∧
  decodeWord 0b00000000000000000000000100001000#32 = .cmd .ratioTs ∧
  decodeWord 0x00000101#32 = .illegal .tselNotAdmitted ∧
  decodeWord 0x00000009#32 = .illegal .unassignedOpcode ∧
  decodeWord 0x80000006#32 = .illegal .reservedBits

/-- A step runs the decoded command: the host's write of its word is accepted, and the core's step is its meaning. The
same of a command placed by `withFetchWord` (the model's own convention, log 11). -/
def Obligations.StepRunsTheDecodedCommand : Prop :=
  (∀ (s : State) (w : Word) (i : Instr) (ops : List HostStep) (rest : List Move),
    decodeWord w = .cmd i → s.phase = .idle → s.inputs = .host :: .core :: rest → s.host = .write 0x000 w :: ops →
    ∃ t, step s = .next t ∧ t = accept w { s with host := ops, inputs := .core :: rest } ∧ t.phase = .exec ∧ t.cur = some i ∧
      step t = exec i { t with inputs := rest }) ∧
  (∀ (s : State) (i : Instr), s.phase = .exec → s.cur = some i → s.inputs = [] → step s = exec i s) ∧
  ∀ (s : State) (i : Instr),
    (s.withFetchWord 32 (encode i).toNat).cur = some i ∧
    step (s.withFetchWord 32 (encode i).toNat) = exec i { s.withFetchWord 32 (encode i).toNat with inputs := s.inputs }

/-! ### The invariant -/

/-- The invariant holds of the state after reset, for every legal SECRET_CAP. The value State.reset is launched with
(256) is the model's choice, log 1, as is the empty port, log 8. -/
def Obligations.ResetMeetsInvariant : Prop :=
  (∀ cap, Config.legalCap cap = true → (State.resetWith cap).Inv) ∧ State.reset.Inv

/-- Every step keeps the invariant. Its clause that the port is empty while no request is outstanding is the model's
choice, log 8. -/
def Obligations.StepKeepsInvariant : Prop :=
  ∀ s t : State, s.Inv → step s = .next t → t.Inv

/-- No access traps and no error leaves the core stuck: from a state that meets the invariant a step is taken, and the
EXEC step of a command is taken in every state. -/
def Obligations.StepNeverStops : Prop :=
  (∀ s : State, s.Inv → ∃ t, step s = .next t) ∧ ∀ (i : Instr) (s : State), ∃ t, exec i s = .next t

/-- R39: where PHASE goes in every step, with the request and the completions that go with it. -/
def Obligations.PhaseMovesAsListed : Prop :=
  ∀ s t : State, s.Inv → step s = .next t →
    t.phase = phaseAfter s ∧
    (s.phase = .exec → t.phase = .wait → t.outstanding = true ∧ t.portReq.isSome = true) ∧
    (s.phase = .exec → t.phase = .idle → ¬ resets s → t.status.done = true ∧
      t.status.err =
        if (s.cur = some .decode ∨ s.cur = some .generate ∨ s.cur = some .generateTs) ∧ s.secretCap < s.secretLen.toNat
        then 3 else 0) ∧
    (s.phase = .wait → t.phase = .idle → ¬ resets s →
      t.status.done = true ∧ ∃ a, answers s a ∧ t.status.err = if a = .unavailable then 1 else 0) ∧
    (accepts s → t.phase = .idle → t.status.done = true ∧ t.status.err = 2)

/-- R126: with the provider silent PHASE stays WAIT and BUSY stays 1 for ever, and a POLL loop never ends, however many
turns the host takes; only a reset recovers. -/
def Obligations.SilentProviderHangsTheCore : Prop :=
  (∀ (k : Nat) (s : State), s.Inv → s.phase = .wait → (∀ m ∈ s.inputs, endsWait m = false) →
    ∃ t, Host.Core.run Sys2Proof.core k s = .next t ∧ t.phase = .wait ∧ t.outstanding = true ∧
      t.portReq = s.portReq ∧ t.cur = s.cur ∧ (memRead t 0x004).getLsbD 0 = true ∧
      ∀ ops, s.host = .poll :: ops → t.host = .poll :: ops) ∧
  (∀ s : State, s.phase = .wait → s.inputs = [] → step s = .next s) ∧
  ∀ s : State, resets s → ∃ t, step s = .next t ∧ t.phase = .idle

/-- A command completes in its own steps: one EXEC step, and for HMAC and GENERATE one response more (R39, R106). The
host sees it by POLL (R67): a turn of the host in the loop reads STATUS and stays in the loop exactly while BUSY reads 1,
and a loop entered while a command runs ends only after the completion, when no reset comes. -/
def Obligations.CommandsCompleteInTheirSteps : Prop :=
  (∀ (s : State) (w : Word) (i : Instr) (a : Answer) (ops : List HostStep),
    s.Inv → s.phase = .idle → decodeWord w = .cmd i →
    s.inputs = [.host, .core, .respond a] → s.host = .write 0x000 w :: ops →
    ∃ t u v, step s = .next t ∧ step t = .next u ∧ step u = .next v ∧
      t.phase = .exec ∧ t.status.busy = true ∧ t.status.done = false ∧
      v.phase = .idle ∧ v.status.busy = false ∧ v.status.done = true ∧ v.status.lastop = i.fields.opc ∧
      (i ≠ .hmac → i ≠ .generate → i ≠ .generateTs → u.phase = .idle ∧ u.status.done = true)) ∧
  (∀ (s : State) (ops : List HostStep) (rest : List Move), s.inputs = .host :: rest → s.host = .poll :: ops →
    ∃ t, step s = .next t ∧ t.readData = some (memRead s 0x004) ∧ SameRegisters s t ∧ t.inputs = rest ∧
      t.host = if (memRead s 0x004).getLsbD 0 then .poll :: ops else ops) ∧
  ∀ (k : Nat) (s t : State) (ops : List HostStep), s.Inv → s.phase ≠ .idle → (∀ m ∈ s.inputs, m ≠ .reset) →
    s.host = .poll :: ops → Host.Core.run Sys2Proof.core k s = .next t → t.host ≠ .poll :: ops →
    ∃ j u, j < k ∧ Host.Core.run Sys2Proof.core j s = .next u ∧ u.phase = .idle ∧ u.status.done = true ∧
      u.host = .poll :: ops

/-! ### Reset -/

/-- Reset gives every register and hidden state its reset value, from any state (R13, R119). What it leaves of the
model's own fields, and the empty port, are the model's choice, logs 8 and 12. -/
def Obligations.ResetSetsEveryRegister : Prop :=
  ∀ (s : State) (rest : List Move), s.inputs = .reset :: rest →
    ∃ t, step s = .next t ∧ memRead t 0x004 = 0 ∧ t.phase = .idle ∧ t.cur = none ∧ t.outstanding = false ∧
      t.portReq = none ∧ t.tLat = 0 ∧ t.secretLen = 0 ∧ t.tsOvr = 0 ∧ t.tsUsed = 0 ∧ t.counter = 0 ∧
      (∀ i : Fin 8, t.msg[i.val] = 0) ∧ t.keyLen = 0 ∧ t.keyBuf = zeros (Config.keyCap s.secretCap) ∧
      (∀ i : Fin 20, t.digest[i.val] = 0) ∧ t.offset = 0 ∧ t.bincode = 0 ∧ t.code = 0 ∧
      (∀ i : Fin 6, t.codeStr[i.val] = 0) ∧ t.secsRem = 0 ∧ memRead t 0x04C = 0x00001E00 ∧
      t.secretCap = s.secretCap ∧ (∀ i, readChar t i = Config.freeChar (s.epoch + 1) i) ∧
      t.inputs = rest ∧ t.host = s.host ∧ t.nowSec = s.nowSec ∧ t.draws = s.draws

/-- A response with OUTSTANDING = 0 has no effect, so none reaches the core after a reset in WAIT (R84, R120). -/
def Obligations.StrayResponseHasNoEffect : Prop :=
  (∀ (s : State) (a : Answer) (rest : List Move), s.outstanding = false → s.inputs = .respond a :: rest →
    step s = .next { s with inputs := rest }) ∧
  ∀ (s : State) (a : Answer) (rest : List Move), s.phase = .wait → s.inputs = .reset :: .respond a :: rest →
    ∃ t, step s = .next t ∧ t.phase = .idle ∧ t.outstanding = false ∧ step t = .next { t with inputs := rest }

/-! ### The register bus -/

/-- Writes that have no effect, reads that give 0, in every phase (R46). That the bits of a result register that read 0 do
so while PHASE is not IDLE is the model's reading of R40, log 13. -/
def Obligations.UnwritableAndReservedOffsets : Prop :=
  ∀ (s : State) (off : Offset) (v : Word),
    (¬ writable s.secretCap (busAddr off) → memWrite off v s = s) ∧
    (reservedAddr s.secretCap (busAddr off) → memRead s off = 0) ∧
    (busAddr off = 0x000 → memRead s off = 0) ∧
    memRead s off &&& readsZero (busAddr off) = 0

/-- R44: an access moves one word, off[1:0] are ignored and no access traps: each is one step, a read that hands the
host the word or a write. -/
def Obligations.AccessesIgnoreLowOffsetBits : Prop :=
  ∀ (s : State) (off : Offset) (v : Word) (ops : List HostStep) (rest : List Move),
    memRead s off = memRead s (off &&& 0xFFC) ∧ memWrite off v s = memWrite (off &&& 0xFFC) v s ∧
    (s.inputs = .host :: rest → s.host = .write off v :: ops →
      step s = .next (memWrite (off &&& 0xFFC) v { s with host := ops, inputs := rest })) ∧
    (s.inputs = .host :: rest → s.host = .read off :: ops →
      ∃ t, step s = .next t ∧ t.readData = some (memRead s (off &&& 0xFFC)) ∧ SameRegisters s t ∧
        t.host = ops ∧ t.inputs = rest)

/-- R45: byte i of a buffer is in lane i mod 4 of word i div 4, with the rule's example. -/
def Obligations.BuffersInLittleEndianLanes : Prop :=
  (∀ s : State, s.Inv → s.phase = .idle →
    (∀ i : Fin 8, (memRead s (BitVec.ofNat 12 (0x028 + 4 * (i.val / 4)))).extractLsb' (8 * (i.val % 4)) 8 = s.msg[i.val]) ∧
    (∀ i : Fin 20, (memRead s (BitVec.ofNat 12 (0x060 + 4 * (i.val / 4)))).extractLsb' (8 * (i.val % 4)) 8 = s.digest[i.val]) ∧
    (∀ i : Fin 6, (memRead s (BitVec.ofNat 12 (0x040 + 4 * (i.val / 4)))).extractLsb' (8 * (i.val % 4)) 8 = s.codeStr[i.val]) ∧
    (∀ i < s.secretCap, (memRead s (BitVec.ofNat 12 (0x400 + 4 * (i / 4)))).extractLsb' (8 * (i % 4)) 8 = readChar s i) ∧
    ∀ i (h : i < s.keyBuf.length),
      (memRead s (BitVec.ofNat 12 (0x800 + 4 * (i / 4)))).extractLsb' (8 * (i % 4)) 8 = s.keyBuf[i]) ∧
  ∀ s : State, s.phase = .idle → s.codeStr = #v[0x39, 0x39, 0x36, 0x35, 0x35, 0x34] →
    memRead s 0x040 = 0x35363939 ∧ memRead s 0x044 = 0x00003435

/-- STATUS reads as its fields, in every phase, and a write to it is ignored (R15). -/
def Obligations.StatusReadsItsFields : Prop :=
  ∀ (s : State) (v : Word),
    (memRead s 0x004).getLsbD 0 = s.status.busy ∧ (memRead s 0x004).getLsbD 1 = s.status.done ∧
    (memRead s 0x004).extractLsb' 2 3 = s.status.err ∧ (memRead s 0x004).getLsbD 5 = s.status.invfmt ∧
    (memRead s 0x004).getLsbD 6 = s.status.ovr ∧ (memRead s 0x004).extractLsb' 8 8 = s.status.lastop ∧
    (memRead s 0x004).getLsbD 7 = false ∧ (memRead s 0x004).extractLsb' 16 16 = 0 ∧ memWrite 0x004 v s = s

/-- R22: the fields of CONFIG, hardwired: no write and no step changes them. -/
def Obligations.ConfigIsHardwired : Prop :=
  (∀ (s : State) (v : Word), Config.legalCap s.secretCap = true →
    (memRead s 0x008).extractLsb' 0 8 = 30 ∧ (memRead s 0x008).extractLsb' 8 4 = 6 ∧
    (memRead s 0x008).extractLsb' 12 4 = 1 ∧ ((memRead s 0x008).extractLsb' 16 11).toNat = s.secretCap ∧
    (memRead s 0x008).extractLsb' 27 5 = 0 ∧ memWrite 0x008 v s = s) ∧
  (∀ s : State, s.secretCap = 256 → memRead s 0x008 = 0x0100161E) ∧
  ∀ s t : State, step s = .next t → t.secretCap = s.secretCap ∧ memRead t 0x008 = memRead s 0x008

/-- R23: SECRET_LEN takes bits [10:0] of every write in IDLE, above SECRET_CAP too. -/
def Obligations.SecretLenTakesElevenBits : Prop :=
  (∀ (s : State) (v : Word), s.phase = .idle →
    memWrite 0x00C v s = { s with secretLen := v.extractLsb' 0 11 } ∧
    memRead (memWrite 0x00C v s) 0x00C = v &&& 0x7FF) ∧
  (∀ (s : State) (v : Word), s.phase ≠ .idle →
    memWrite 0x00C v s = { s with status := { s.status with ovr := true } }) ∧
  ∀ (s : State) (i : Instr), s.secretCap < s.secretLen.toNat → i = .decode ∨ i = .generate ∨ i = .generateTs →
    ∃ t, exec i s = .next t ∧ Completed 3 t

/-- The two words of TS_OVR are written one at a time and read back exactly in every phase (R25, R49, R127). -/
def Obligations.TsOvrIsTwoWords : Prop :=
  ∀ (s : State) (v : Word),
    (s.phase = .idle →
      ((memWrite 0x010 v s).tsOvr.extractLsb' 0 32 = v ∧
        (memWrite 0x010 v s).tsOvr.extractLsb' 32 32 = s.tsOvr.extractLsb' 32 32) ∧
      ((memWrite 0x014 v s).tsOvr.extractLsb' 32 32 = v ∧
        (memWrite 0x014 v s).tsOvr.extractLsb' 0 32 = s.tsOvr.extractLsb' 0 32) ∧
      (∀ off : Offset, off = 0x010 ∨ off = 0x014 → { memWrite off v s with tsOvr := s.tsOvr } = s)) ∧
    memRead s 0x010 = s.tsOvr.extractLsb' 0 32 ∧ memRead s 0x014 = s.tsOvr.extractLsb' 32 32

/-- R47: the SECRET window. -/
def Obligations.SecretWindowMapsSecretBuf : Prop :=
  ∀ (s : State) (w : Nat) (v : Word), s.Inv → w < 256 →
    (w < s.secretCap / 4 →
      (∀ j < 4, (memRead s (BitVec.ofNat 12 (0x400 + 4 * w))).extractLsb' (8 * j) 8 = readChar s (4 * w + j)) ∧
      (s.phase = .idle →
        (∀ j < 4, readChar (memWrite (BitVec.ofNat 12 (0x400 + 4 * w)) v s) (4 * w + j) = v.extractLsb' (8 * j) 8) ∧
        (∀ i, i < 4 * w ∨ 4 * w + 4 ≤ i →
          readChar (memWrite (BitVec.ofNat 12 (0x400 + 4 * w)) v s) i = readChar s i) ∧
        { memWrite (BitVec.ofNat 12 (0x400 + 4 * w)) v s with secretBuf := s.secretBuf } = s)) ∧
    (s.secretCap / 4 ≤ w →
      memRead s (BitVec.ofNat 12 (0x400 + 4 * w)) = 0 ∧ memWrite (BitVec.ofNat 12 (0x400 + 4 * w)) v s = s)

/-- The KEY window, read while PHASE is IDLE (R48, R40). That the lanes past KEY_CAP read 0 in every phase is the model's
reading of R40, log 13. -/
def Obligations.KeyWindowMapsKeyBuf : Prop :=
  (∀ (s : State) (w : Nat) (v : Word), s.Inv → w < 160 →
    (s.phase = .idle → ∀ j < 4, (memRead s (BitVec.ofNat 12 (0x800 + 4 * w))).extractLsb' (8 * j) 8 =
      if 4 * w + j < Config.keyCap s.secretCap then s.keyBuf.getD (4 * w + j) 0 else 0) ∧
    (∀ j < 4, Config.keyCap s.secretCap ≤ 4 * w + j →
      (memRead s (BitVec.ofNat 12 (0x800 + 4 * w))).extractLsb' (8 * j) 8 = 0) ∧
    memWrite (BitVec.ofNat 12 (0x800 + 4 * w)) v s = s ∧
    ((Config.keyCap s.secretCap + 3) / 4 ≤ w → memRead s (BitVec.ofNat 12 (0x800 + 4 * w)) = 0)) ∧
  (∀ cap, Config.legalCap cap = true → Config.keyCap cap ≤ 640) ∧ Config.keyCap 1024 = 640 ∧ 640 = 4 * 160

/-- R110: a write to CMD or an input while PHASE is not IDLE changes OVR only; a write elsewhere changes nothing. -/
def Obligations.WritesWhileBusyAreDropped : Prop :=
  ∀ (s : State) (off : Offset) (v : Word),
    (s.phase ≠ .idle → writable s.secretCap (busAddr off) →
      memWrite off v s = { s with status := { s.status with ovr := true } }) ∧
    (¬ writable s.secretCap (busAddr off) → memWrite off v s = s)

/-- No read changes a register of the core, and a repeated write of an input leaves the same state (R41, R51). The
draw counter and the read data a read may change are the model's own, log 3 and log 4. -/
def Obligations.ReadsAndRepeatedWritesHaveNoEffect : Prop :=
  (∀ (s : State) (off : Offset), SameRegisters s (hostRead off s)) ∧
  (∀ (s : State) (off : Offset) (v : Word), Memory.wf s.secretBuf → busAddr off ≠ 0x000 →
    memWrite off v (memWrite off v s) = memWrite off v s) ∧
  ∀ (s : State) (off : Offset) (v : Word), s.phase = .idle → busAddr off ≠ 0x000 →
    (memWrite off v s).status = s.status ∧ (memWrite off v s).phase = .idle

/-- What every read returns (R40, R41, R43, R53). While PHASE is IDLE every offset reads the word of the map. While it is
not, the result bits of the result registers are those of a free value, a new draw at each such read (log 4), and the
other bits still those of the map (log 13, the model's reading of R40). STATUS, CONFIG, the inputs and the SECRET window
read exactly in every phase. -/
def Obligations.ResultReadsAreFreeWhileBusy : Prop :=
  (∀ (s : State) (off : Offset), s.phase = .idle → memRead s off = mapWord s (busAddr off)) ∧
  (∀ (s : State) (off : Offset),
    (busAddr off ∈ [0x000, 0x004, 0x008, 0x00C, 0x010, 0x014] ∨ inSecretWindow s.secretCap (busAddr off)) →
    memRead s off = mapWord s (busAddr off)) ∧
  (∀ (s : State) (off : Offset), s.phase ≠ .idle →
    memRead s off &&& freeBits s.secretCap (busAddr off) =
      Config.freeWord s.draws &&& freeBits s.secretCap (busAddr off) ∧
    memRead s off &&& ~~~freeBits s.secretCap (busAddr off) =
      mapWord s (busAddr off) &&& ~~~freeBits s.secretCap (busAddr off)) ∧
  ∀ (s : State) (off : Offset), (hostRead off s).readData = some (memRead s off) ∧
    (hostRead off s).draws =
      if s.phase ≠ .idle ∧ freeBits s.secretCap (busAddr off) ≠ 0 then s.draws + 1 else s.draws

/-! ### Acceptance, completion and STATUS -/

/-- Accept of a legal word: STATUS, CUR, PHASE and T_LAT as R106 writes them, and nothing else. A sample of an undriven
`now_sec` is a free value, whose counter is the model's own, log 6. -/
def Obligations.AcceptStartsTheCommand : Prop :=
  ∀ (s : State) (w : Word) (i : Instr), decodeWord w = .cmd i →
    accept w s =
      { s with
        status := ⟨true, false, 0, false, false, w.extractLsb' 0 8⟩
        phase := .exec
        cur := some i
        tLat :=
          if w.extractLsb' 0 8 ∈ [0x02#8, 0x06#8, 0x07#8, 0x08#8] then
            if w.getLsbD 8 then s.tsOvr else s.nowSec.getD (Config.freeTime s.draws)
          else s.tLat
        draws :=
          if w.extractLsb' 0 8 ∈ [0x02#8, 0x06#8, 0x07#8, 0x08#8] ∧ w.getLsbD 8 = false ∧ s.nowSec = none
          then s.draws + 1 else s.draws }

/-- R102: an illegal word completes at once and changes STATUS only. -/
def Obligations.IllegalWordChangesStatusOnly : Prop :=
  (∀ (s : State) (off : Offset) (w : Word) (ops : List HostStep) (rest : List Move), s.Inv → s.phase = .idle →
    busAddr off = 0x000 → ¬ legalWord w → s.inputs = .host :: rest → s.host = .write off w :: ops →
    step s =
      .next { s with host := ops, inputs := rest, status := ⟨false, true, 2, false, false, w.extractLsb' 0 8⟩ }) ∧
  ∀ (s : State) (ops : List HostStep) (rest : List Move), s.Inv → s.phase = .idle → s.inputs = .host :: rest →
    s.host = .write 0x000 0x00000009 :: ops →
    ∃ t, step s = .next t ∧ memRead t 0x004 = 0x0000090A

/-- R107: Complete(e) writes ERR, BUSY, DONE, PHASE and CUR and nothing else, and the core accepts the next command after
it. -/
def Obligations.CompleteEndsTheCommand : Prop :=
  ∀ (e : Err) (s : State), Completed (errCode e) (complete e s) ∧
    SameFlags s (complete e s) ∧ (complete e s).status.invfmt = s.status.invfmt ∧
    { complete e s with status := s.status, phase := s.phase, cur := s.cur } = s ∧
    ∀ (w : Word) (i : Instr), decodeWord w = .cmd i →
      (memWrite 0x000 w (complete e s)).phase = .exec ∧ (memWrite 0x000 w (complete e s)).cur = some i

/-- R16: BUSY. -/
def Obligations.BusyReadsPhase : Prop :=
  (∀ s : State, s.Inv → ((memRead s 0x004).getLsbD 0 = true ↔ s.phase ≠ .idle)) ∧
  (∀ (s : State) (w : Word) (i : Instr), decodeWord w = .cmd i → (accept w s).status.busy = true) ∧
  (∀ (e : Err) (s : State), (complete e s).status.busy = false) ∧
  ∀ (s : State) (w : Word) (r : Reject), decodeWord w = .illegal r → (accept w s).status.busy = false

/-- R17: DONE is cleared by Accept and set by Complete; it is 0 after reset and reads do not clear it. -/
def Obligations.DoneMarksCompletion : Prop :=
  (∀ (s : State) (w : Word) (i : Instr), decodeWord w = .cmd i → (accept w s).status.done = false) ∧
  (∀ (e : Err) (s : State), (complete e s).status.done = true) ∧
  (∀ s : State, (applyReset s).status.done = false ∧ (applyReset s).status.busy = false) ∧
  (∀ (s : State) (off : Offset), (hostRead off s).status.done = s.status.done) ∧
  ∀ s t : State, s.Inv → step s = .next t → s.status.done = true → ¬ accepts s → ¬ resets s → t.status.done = true

/-- R18: ERR holds the code Complete was given, Accept clears it, and codes 4 to 7 are never produced. -/
def Obligations.ErrHoldsTheCompletionCode : Prop :=
  (∀ (e : Err) (s : State), (complete e s).status.err = errCode e) ∧
  (∀ (s : State) (w : Word) (i : Instr), decodeWord w = .cmd i → (accept w s).status.err = 0) ∧
  ∀ s t : State, s.Inv → step s = .next t →
    t.status.err = 0 ∨ t.status.err = 1 ∨ t.status.err = 2 ∨ t.status.err = 3

/-- R20: OVR is cleared by Accept, set by a dropped write, and stays set until the next acceptance (or a reset). -/
def Obligations.OvrStaysUntilAcceptance : Prop :=
  (∀ (s : State) (w : Word), (accept w s).status.ovr = false) ∧
  (∀ (s : State) (off : Offset) (v : Word), s.phase ≠ .idle → writable s.secretCap (busAddr off) →
    (memWrite off v s).status.ovr = true) ∧
  (∀ s t : State, step s = .next t → s.status.ovr = true → ¬ accepts s → ¬ resets s → t.status.ovr = true) ∧
  ∀ s t : State, step s = .next t → s.status.ovr = false → t.status.ovr = true →
    s.phase ≠ .idle ∧ ∃ off v ops rest, s.inputs = .host :: rest ∧ s.host = .write off v :: ops ∧
      writable s.secretCap (busAddr off)

/-- R21: LASTOP is bits [7:0] of the offered word, legal or not, until the next acceptance (or a reset). -/
def Obligations.LastopKeepsTheOfferedOpcode : Prop :=
  (∀ (s : State) (w : Word), (accept w s).status.lastop = w.extractLsb' 0 8) ∧
  ∀ s t : State, step s = .next t → ¬ accepts s → ¬ resets s → t.status.lastop = s.status.lastop

/-- Results are final once STATUS shows BUSY = 0: every later step leaves them, until the next acceptance (R53). -/
def Obligations.ResultsStayUntilAcceptance : Prop :=
  ∀ s t : State, s.Inv → (memRead s 0x004).getLsbD 0 = false → step s = .next t → ¬ accepts s → ¬ resets s →
    t.phase = .idle ∧ SameCounters s t ∧ SameKey s t ∧ SameDigest s t ∧ SameView s t ∧ t.codeStr = s.codeStr ∧
    t.status = s.status

/-! ### Time -/

/-- SampleTime: what T_LAT takes at acceptance, and that it is held while the command runs (R76). -/
def Obligations.TimestampIsSampledOnceAtAccept : Prop :=
  (∀ (s : State) (i : Instr), usesTime i = true →
    (i.fields.tsel = true → (accept (encode i) s).tLat = s.tsOvr) ∧
    (∀ now, i.fields.tsel = false → s.nowSec = some now → (accept (encode i) s).tLat = now) ∧
    (i.fields.tsel = false → s.nowSec = none →
      (accept (encode i) s).tLat = Config.freeTime s.draws ∧ (accept (encode i) s).draws = s.draws + 1)) ∧
  (∀ (s : State) (i : Instr), usesTime i = false → (accept (encode i) s).tLat = s.tLat) ∧
  ∀ s t : State, step s = .next t → ¬ accepts s → ¬ resets s → t.tLat = s.tLat

/-- COUNTER and COUNTER.TS: result, completion and frame (R77). -/
def Obligations.CounterIsFloorOfThirtySeconds : Prop :=
  ∀ (s : State) (i : Instr), i = .counter ∨ i = .counterTs →
    ∃ t, exec i s = .next t ∧ t.tsUsed = s.tLat ∧ t.counter.toNat = s.tLat.toNat / 30 ∧
      t.counter.toNat ≤ 0x0888888888888888 ∧ Completed 0 t ∧ SameFlags s t ∧ t.status.invfmt = s.status.invfmt ∧
      t.msg = s.msg ∧ SameInputs s t ∧ SamePorts s t ∧ SameKey s t ∧ SameDigest s t ∧ t.codeStr = s.codeStr ∧
      SameView s t ∧ SameRequest s t ∧ ∀ a, readChar t a = readChar s a

/-- be64 is big-endian, as the loop of R78 builds it. PACK: result, completion (R79) and frame (R62). -/
def Obligations.PackWritesTheCounterBigEndian : Prop :=
  (∀ c : Stamp,
    (∀ i : Fin 8, (be64 c)[7 - i.val].toNat = c.toNat / 256 ^ i.val % 256) ∧
    (be64 c)[0] = c.extractLsb' 56 8 ∧ (be64 c)[7] = c.extractLsb' 0 8 ∧
    (be64 c).toList.foldl (fun v b => 256 * v + b.toNat) 0 = c.toNat) ∧
  ∀ s : State,
    ∃ t, exec .pack s = .next t ∧ t.msg = be64 s.counter ∧
      Completed 0 t ∧ SameFlags s t ∧ t.status.invfmt = s.status.invfmt ∧
      t.tsUsed = s.tsUsed ∧ t.counter = s.counter ∧ SameInputs s t ∧ SamePorts s t ∧ SameKey s t ∧ SameDigest s t ∧
      t.codeStr = s.codeStr ∧ SameView s t ∧ SameRequest s t ∧ ∀ a, readChar t a = readChar s a

/-- R94: secrem. -/
def Obligations.SecremReachesTheNextStep : Prop :=
  ∀ t : Stamp, secrem t = 30 - t.toNat % 30 ∧ 1 ≤ secrem t ∧ secrem t ≤ 30 ∧
    (secrem t = 30 ↔ t.toNat % 30 = 0) ∧ (secrem t = 1 ↔ t.toNat % 30 = 29) ∧
    (t.toNat + secrem t) % 30 = 0 ∧ (∀ n, t.toNat < n → n % 30 = 0 → t.toNat + secrem t ≤ n) ∧
    (t.toNat + secrem t) / 30 = t.toNat / 30 + 1

/-- SECREM, SECREM.TS, RATIO and RATIO.TS: result, completion and frame (R95, R96). -/
def Obligations.TimerViewShowsRemainingSeconds : Prop :=
  (∀ (s : State) (i : Instr), i = .secrem ∨ i = .secremTs →
    ∃ t, exec i s = .next t ∧ t.tsUsed = s.tLat ∧ t.secsRem.toNat = 30 - s.tLat.toNat % 30 ∧ t.ratioNum = s.ratioNum ∧
      Completed 0 t ∧ SameFlags s t ∧ t.status.invfmt = s.status.invfmt ∧ t.counter = s.counter ∧ t.msg = s.msg ∧
      SameInputs s t ∧ SamePorts s t ∧ SameKey s t ∧ SameDigest s t ∧ t.codeStr = s.codeStr ∧ SameRequest s t ∧
      ∀ a, readChar t a = readChar s a) ∧
  (∀ (s : State) (i : Instr), i = .ratio ∨ i = .ratioTs →
    ∃ t, exec i s = .next t ∧ t.tsUsed = s.tLat ∧ t.ratioNum.toNat = 30 - s.tLat.toNat % 30 ∧ t.secsRem = s.secsRem ∧
      (memRead t 0x04C).extractLsb' 8 5 = 30 ∧
      Completed 0 t ∧ SameFlags s t ∧ t.status.invfmt = s.status.invfmt ∧ t.counter = s.counter ∧ t.msg = s.msg ∧
      SameInputs s t ∧ SamePorts s t ∧ SameKey s t ∧ SameDigest s t ∧ t.codeStr = s.codeStr ∧ SameRequest s t ∧
      ∀ a, readChar t a = readChar s a)

/-! ### The Base32 decoder -/

/-- R71: the serial unpacker computes the bit string's bytes. -/
def Obligations.UnpackerMatchesBitString : Prop :=
  ∀ s : Bytes,
    (b32decode s).length = 5 * (sanitize s).length / 8 ∧
    (∀ j (h : j < (b32decode s).length) (k : Fin 8),
      (b32bits s)[8 * j + k.val]? = some ((b32decode s)[j].getLsbD (7 - k.val))) ∧
    (b32bits s).length = 5 * (sanitize s).length ∧ b32decode s = bytesOfBits (b32bits s) ∧ b32decode [] = []

/-- R72: the length of a decode, what it discards, that it fits KEY_BUF, and that no flag reports discarded bits. -/
def Obligations.DecodedLengthIsFloor : Prop :=
  (∀ s : Bytes, (b32decode s).length = 5 * (sanitize s).length / 8 ∧ (b32decode s = [] ↔ (sanitize s).length ≤ 1)) ∧
  (∀ s s' : Bytes, (sanitize s).length = (sanitize s').length →
    (b32bits s).take (8 * (5 * (sanitize s).length / 8)) = (b32bits s').take (8 * (5 * (sanitize s).length / 8)) →
    b32decode s = b32decode s') ∧
  ∀ s : State, Config.legalCap s.secretCap = true → s.secretLen.toNat ≤ s.secretCap →
    (b32decode (secretText s)).length ≤ Config.keyCap s.secretCap ∧
    ∃ t, exec .decode s = .next t ∧ t.status = { s.status with
      busy := false, done := true, err := 0
      invfmt := s.status.invfmt || (decide (0 < s.secretLen.toNat) && (b32decode (secretText s)).isEmpty) }

/-- R74: decoding the RFC 4648 encoding of any bytes gives them back, with any padding. -/
def Obligations.DecodeOfEncodingIsIdentity : Prop :=
  ∀ (b : Bytes) (pads : Nat), b32decode (b32encode b ++ List.replicate pads padChar) = b ∧
    (b32encode b).length = (8 * b.length + 4) / 5

/-- The filter: a character outside the alphabet changes nothing wherever it stands, a lowercase letter decodes as its
uppercase, and kept characters keep their order (R70). -/
def Obligations.FilterDropsAndFolds : Prop :=
  (∀ (a b : Bytes) (c : Byte),
    ¬ ((0x41 ≤ c.toNat ∧ c.toNat ≤ 0x5A) ∨ (0x61 ≤ c.toNat ∧ c.toNat ≤ 0x7A) ∨ (0x32 ≤ c.toNat ∧ c.toNat ≤ 0x37)) →
    b32decode (a ++ c :: b) = b32decode (a ++ b)) ∧
  (∀ (a b : Bytes) (c : Byte), 0x61 ≤ c.toNat → c.toNat ≤ 0x7A →
    b32decode (a ++ c :: b) = b32decode (a ++ (c - 0x20) :: b)) ∧
  (∀ c ∈ ([] : Bytes) ++ (List.range 26).map (fun k => BitVec.ofNat 8 (0x41 + k)),
    sanitizeChar c = some c ∧ b32val c = c.toNat - 0x41) ∧
  (∀ c ∈ (List.range 6).map (fun k => BitVec.ofNat 8 (0x32 + k)),
    sanitizeChar c = some c ∧ b32val c = c.toNat - 0x32 + 26) ∧
  ∀ a b : Bytes, sanitize (a ++ b) = sanitize a ++ sanitize b

/-- DECODE with SECRET_LEN ≤ SECRET_CAP: result, completion and frame (R73). -/
def Obligations.DecodeLoadsTheKey : Prop :=
  ∀ s : State, s.Inv → s.secretLen.toNat ≤ s.secretCap →
    ∃ t k, exec .decode s = .next t ∧ k = bytesOfBits (b32bits (secretText s)) ∧
      t.keyBuf = k ++ zeros (Config.keyCap s.secretCap - k.length) ∧ t.keyBuf.length = Config.keyCap s.secretCap ∧
      t.keyLen.toNat = k.length ∧ requestKey t = k ∧
      t.status.invfmt = (s.status.invfmt || (decide (0 < s.secretLen.toNat) && k.isEmpty)) ∧
      Completed 0 t ∧ SameFlags s t ∧ SameInputs s t ∧ SamePorts s t ∧ SameCounters s t ∧ SameDigest s t ∧
      t.codeStr = s.codeStr ∧ SameView s t ∧ SameRequest s t ∧ ∀ a, readChar t a = readChar s a

/-- R103: DECODE and GENERATE with SECRET_LEN > SECRET_CAP. No character of SECRET_BUF is read: the outcome is the same
whatever SECRET_BUF holds. -/
def Obligations.SecretTooLongCompletesWithThree : Prop :=
  ∀ s : State, s.secretCap < s.secretLen.toNat →
    (∃ t, exec .decode s = .next t ∧ Completed 3 t ∧ SameKey s t ∧
      { t with status := s.status, phase := s.phase, cur := s.cur } = s) ∧
    (∀ i, i = .generate ∨ i = .generateTs → ∃ t, exec i s = .next t ∧ Completed 3 t ∧ SameKey s t ∧
      (∀ j : Fin 6, t.codeStr[j.val] = 0x2D) ∧
      { t with status := s.status, phase := s.phase, cur := s.cur, codeStr := s.codeStr } = s) ∧
    ∀ (i : Instr) (buf : Memory) (e : Nat) (t : State), i = .decode ∨ i = .generate ∨ i = .generateTs →
      exec i s = .next t → exec i { s with secretBuf := buf, epoch := e } = .next { t with secretBuf := buf, epoch := e }

/-! ### The HMAC wrapper -/

/-- HMAC issues its request and completes on the provider's response (R80, R85): result, completion and frame. That the
port is empty after the response is the model's choice, log 8. -/
def Obligations.HmacRequestsAndCompletes : Prop :=
  ∀ (s : State) (d : Digest) (a : Answer), s.Inv → s.cur = some .hmac → (a = .ok d ∨ a = .unavailable) →
    ∃ t u, exec .hmac s = .next t ∧ t.phase = .wait ∧ t.outstanding = true ∧ t.status = s.status ∧ t.cur = some .hmac ∧
      t.portReq = some ⟨.sha1, s.keyLen.toNat, s.keyBuf.take s.keyLen.toNat, 8, s.msg⟩ ∧
      { t with phase := s.phase, outstanding := s.outstanding, portReq := s.portReq } = s ∧
      act (.respond a) t = .next u ∧
      (a = .ok d → u.digest = d ∧ Completed 0 u) ∧ (a = .unavailable → u.digest = s.digest ∧ Completed 1 u) ∧
      Zeroized u ∧ u.outstanding = false ∧ u.portReq = none ∧ SameFlags s u ∧ u.status.invfmt = s.status.invfmt ∧
      u.offset = s.offset ∧ u.bincode = s.bincode ∧ u.code = s.code ∧ u.codeStr = s.codeStr ∧
      SameInputs s u ∧ SamePorts s u ∧ SameCounters s u ∧ SameView s u ∧ ∀ x, readChar u x = readChar s x

/-- A conforming provider answers with HMAC_FN of the key and the message the registers held (R82). -/
def Obligations.ConformingProviderAnswersHmacFn : Prop :=
  ∀ (s : State) (rest : List Move), s.Inv → s.phase = .wait → s.inputs = .respondHmac :: rest →
    ∃ t, step s = .next t ∧ t.digest = Config.hmacFn (s.keyBuf.take s.keyLen.toNat) s.msg ∧ Completed 0 t ∧ t.inputs = rest

/-- R86: Zeroize, and that it runs at every completion that follows a request. DIGEST is not cleared. -/
def Obligations.KeyIsClearedAtCompletion : Prop :=
  (∀ s : State, zeroize s = { s with keyBuf := List.replicate (Config.keyCap s.secretCap) 0, keyLen := 0 }) ∧
  ∀ (s t : State) (a : Answer), s.Inv → s.phase = .wait → answers s a → step s = .next t →
    t.phase = .idle ∧ Zeroized t ∧ (∀ d, a = .ok d → t.digest = d) ∧ (a = .unavailable → t.digest = s.digest)

/-- UNAVAILABLE completes HMAC and GENERATE with ERR = 1; the request is not issued again (R104). That the port is empty
after the response is the model's choice, log 8. -/
def Obligations.UnavailableCompletesWithOne : Prop :=
  ∀ (s : State) (rest : List Move), s.Inv → s.phase = .wait → s.inputs = .respond .unavailable :: rest →
    ∃ t, step s = .next t ∧ Completed 1 t ∧ Zeroized t ∧ t.outstanding = false ∧ t.portReq = none ∧ SameFlags s t ∧
      t.status.invfmt = s.status.invfmt ∧ SameCounters s t ∧ SameDigest s t ∧ SameView s t ∧ SameInputs s t ∧
      t.inputs = rest ∧
      (s.cur = some .hmac → t.codeStr = s.codeStr) ∧
      (s.cur ≠ some .hmac → ∀ j : Fin 6, t.codeStr[j.val] = 0x2D)

/-! ### The dynamic truncator -/

/-- R87, R88, R89: the offset, the binary code and the code, with the rules' formulas. -/
def Obligations.TruncationFollowsTheFormulas : Prop :=
  ∀ d : Digest, ∃ o : Fin 16, (truncOffset d).toNat = o.val ∧ d[19].toNat % 16 = o.val ∧ (d[19] &&& 0x0F).toNat = o.val ∧
    (binaryCode d).toNat =
      ((d[o.val].toNat &&& 0x7F) <<< 24 ||| (d[o.val + 1].toNat &&& 0xFF) <<< 16 |||
        (d[o.val + 2].toNat &&& 0xFF) <<< 8 ||| (d[o.val + 3].toNat &&& 0xFF)) ∧
    (binaryCode d).toNat ≤ 2147483647 ∧ o.val + 3 ≤ 18 ∧
    (∀ x : Byte, x &&& 0x0F = d[19] &&& 0x0F → binaryCode (d.set 19 x) = binaryCode d) ∧
    (codeOf (binaryCode d)).toNat = (binaryCode d).toNat % 1000000 ∧ (codeOf (binaryCode d)).toNat ≤ 999999

/-- R90: fmt6 is the zero-padded decimal string. -/
def Obligations.CodeStringIsSixDecimalDigits : Prop :=
  (∀ n, n ≤ 999999 →
    (∀ i : Fin 6, (fmt6 n)[5 - i.val].toNat = 0x30 + n / 10 ^ i.val % 10) ∧
    (∀ i : Fin 6, 0x30 ≤ (fmt6 n)[i.val].toNat ∧ (fmt6 n)[i.val].toNat ≤ 0x39) ∧
    (fmt6 n).toList.foldl (fun v c => 10 * v + (c.toNat - 0x30)) 0 = n ∧ (fmt6 n).toList.length = 6) ∧
  fmt6 42 = #v[0x30, 0x30, 0x30, 0x30, 0x34, 0x32]

/-- TRUNC: result, completion and frame (R91). -/
def Obligations.TruncWritesTheCode : Prop :=
  ∀ s : State,
    ∃ t, exec .trunc s = .next t ∧ t.offset.toNat = s.digest[19].toNat % 16 ∧ t.bincode = binaryCode s.digest ∧
      t.code.toNat = t.bincode.toNat % 1000000 ∧ t.codeStr = fmt6 (t.bincode.toNat % 1000000) ∧
      Completed 0 t ∧ SameFlags s t ∧ t.status.invfmt = s.status.invfmt ∧ t.digest = s.digest ∧ SameInputs s t ∧
      SamePorts s t ∧ SameCounters s t ∧ SameKey s t ∧ SameView s t ∧ SameRequest s t ∧ ∀ a, readChar t a = readChar s a

/-- R92: the sentinel, that no code equals it, and that only a failed GENERATE writes it. -/
def Obligations.SentinelOnlyFromFailedGenerate : Prop :=
  sentinel = Vector.replicate 6 0x2D ∧ (∀ n, fmt6 n ≠ sentinel) ∧
  (∀ n (i : Fin 6), 0x30 ≤ (fmt6 n)[i.val].toNat ∧ (fmt6 n)[i.val].toNat ≤ 0x39) ∧
  (∀ s t : State, exec .trunc s = .next t → t.codeStr ≠ sentinel) ∧
  ∀ s t : State, s.Inv → step s = .next t → s.codeStr ≠ sentinel → t.codeStr = sentinel →
    (s.cur = some .generate ∨ s.cur = some .generateTs) ∧ t.status.done = true ∧ t.status.err ≠ 0

/-! ### GENERATE -/

/-- GENERATE and GENERATE.TS in EXEC, then on OK(d): every register they write, completion and frame (R97, R99). That the
port is empty after the response is the model's choice, log 8. -/
def Obligations.GenerateDerivesTheCode : Prop :=
  ∀ (s : State) (i : Instr) (d : Digest), s.Inv → i = .generate ∨ i = .generateTs → s.cur = some i →
    s.secretLen.toNat ≤ s.secretCap →
    ∃ t u k, exec i s = .next t ∧ k = bytesOfBits (b32bits (secretText s)) ∧
      t.phase = .wait ∧ t.outstanding = true ∧
      t.portReq = some ⟨.sha1, k.length, k, 8, be64 (BitVec.ofNat 64 (s.tLat.toNat / 30))⟩ ∧
      t.keyBuf = k ++ zeros (Config.keyCap s.secretCap - k.length) ∧ t.keyLen.toNat = k.length ∧
      t.status = { s.status with invfmt := s.status.invfmt || (decide (0 < s.secretLen.toNat) && k.isEmpty) } ∧
      t.tsUsed = s.tLat ∧ t.counter.toNat = s.tLat.toNat / 30 ∧ t.msg = be64 t.counter ∧
      SameDigest s t ∧ t.codeStr = s.codeStr ∧
      act (.respond (.ok d)) t = .next u ∧ Completed 0 u ∧ Zeroized u ∧ u.digest = d ∧
      u.offset.toNat = d[19].toNat % 16 ∧ u.bincode = binaryCode d ∧ u.code.toNat = u.bincode.toNat % 1000000 ∧
      u.codeStr = fmt6 (u.bincode.toNat % 1000000) ∧
      u.tsUsed = s.tLat ∧ u.counter = t.counter ∧ u.msg = t.msg ∧ u.status.invfmt = t.status.invfmt ∧
      SameFlags s u ∧ SameInputs s u ∧ SamePorts s u ∧ SameView s u ∧ u.outstanding = false ∧ u.portReq = none ∧
      ∀ a, readChar u a = readChar s a

/-- R98: what each failed GENERATE writes and leaves, and that the core is idle again after it. -/
def Obligations.FailedGenerateLeavesTheSentinel : Prop :=
  ∀ (s : State) (i : Instr), s.Inv → s.phase = .exec → i = .generate ∨ i = .generateTs → s.cur = some i →
    (s.secretCap < s.secretLen.toNat →
      ∃ t, exec i s = .next t ∧ Completed 3 t ∧ (∀ j : Fin 6, t.codeStr[j.val] = 0x2D) ∧ t.status.invfmt = false ∧
        SameKey s t ∧ SameCounters s t ∧ SameDigest s t) ∧
    (s.secretLen.toNat ≤ s.secretCap →
      ∃ t u, exec i s = .next t ∧ requestKey t = bytesOfBits (b32bits (secretText s)) ∧
        act (.respond .unavailable) t = .next u ∧ Completed 1 u ∧
        (∀ j : Fin 6, u.codeStr[j.val] = 0x2D) ∧ Zeroized u ∧ u.tsUsed = s.tLat ∧
        u.counter.toNat = s.tLat.toNat / 30 ∧ u.msg = be64 u.counter ∧
        u.status.invfmt = (s.status.invfmt ||
          (decide (0 < s.secretLen.toNat) && (bytesOfBits (b32bits (secretText s))).isEmpty)) ∧ SameDigest s u) ∧
    ∀ (t : State) (w : Word) (j : Instr), t.phase = .idle → decodeWord w = .cmd j → (memWrite 0x000 w t).cur = some j

/-- GENERATE gives what its five stages give one after another at the same timestamp and answer (R60, R97). Only STATUS,
which records the commands, may differ. -/
def Obligations.GenerateEqualsItsStages : Prop :=
  ∀ (s : State) (i : Instr) (a : Answer) (d : Digest), s.Inv → i = .generate ∨ i = .generateTs → s.cur = some i →
    s.secretLen.toNat ≤ s.secretCap → a = .ok d →
    ∃ t g s1 s2 s3 s4 s5 s6,
      exec i s = .next t ∧ act (.respond a) t = .next g ∧
      exec .decode s = .next s1 ∧ exec .counter s1 = .next s2 ∧ exec .pack s2 = .next s3 ∧
      exec .hmac { s3 with cur := some .hmac } = .next s4 ∧ act (.respond a) s4 = .next s5 ∧
      exec .trunc s5 = .next s6 ∧ s4.portReq = t.portReq ∧ { s6 with status := g.status } = g

/-- The code depends on nothing but the secret's characters, the timestamp and the answer: two cores that agree on them
give the same request and the same code, whatever else they hold (R97). -/
def Obligations.CodeDependsOnSecretAndTimeOnly : Prop :=
  ∀ (s s' : State) (i j : Instr) (a : Answer), s.Inv → s'.Inv →
    i = .generate ∨ i = .generateTs → j = .generate ∨ j = .generateTs → s.cur = some i → s'.cur = some j →
    s.secretLen.toNat ≤ s.secretCap → s'.secretLen.toNat ≤ s'.secretCap →
    secretText s = secretText s' → s.tLat = s'.tLat →
    ∃ t u t' u', exec i s = .next t ∧ act (.respond a) t = .next u ∧ exec j s' = .next t' ∧
      act (.respond a) t' = .next u' ∧ t.portReq = t'.portReq ∧ u.codeStr = u'.codeStr ∧ u.counter = u'.counter ∧
      (a ≠ .unavailable → u.code = u'.code ∧ u.bincode = u'.bincode)

/-! ### Whole-machine frames and the host program syntax -/

/-- No command writes an input register, a character of SECRET_BUF, T_LAT or the input port (R13, R62), and each leaves
the result registers that R62 does not give it. -/
def Obligations.CommandsWriteOnlyTheirRegisters : Prop :=
  ∀ (i : Instr) (s t : State), exec i s = .next t →
    SameInputs s t ∧ SamePorts s t ∧ SameFlags s t ∧ (∀ a, readChar t a = readChar s a) ∧
    t.digest = s.digest ∧
    (i ≠ .decode → i ≠ .generate → i ≠ .generateTs → SameKey s t ∧ t.status.invfmt = s.status.invfmt) ∧
    (i = .decode ∨ i = .pack ∨ i = .hmac ∨ i = .trunc → t.tsUsed = s.tsUsed ∧ t.counter = s.counter) ∧
    (i = .secrem ∨ i = .secremTs ∨ i = .ratio ∨ i = .ratioTs → t.counter = s.counter) ∧
    (i ≠ .pack → i ≠ .generate → i ≠ .generateTs → t.msg = s.msg) ∧
    (i ≠ .trunc → t.offset = s.offset ∧ t.bincode = s.bincode ∧ t.code = s.code) ∧
    (i ≠ .trunc → i ≠ .generate → i ≠ .generateTs → t.codeStr = s.codeStr) ∧
    (i ≠ .secrem → i ≠ .secremTs → t.secsRem = s.secsRem) ∧ (i ≠ .ratio → i ≠ .ratioTs → t.ratioNum = s.ratioNum) ∧
    (i ≠ .hmac → i ≠ .generate → i ≠ .generateTs → SameRequest s t)

/-- While a command runs no step but a reset changes what it reads: SECRET_LEN, SECRET_BUF and TS_OVR (R56, R110). -/
def Obligations.InputsAreStableDuringACommand : Prop :=
  ∀ s t : State, s.phase ≠ .idle → step s = .next t → ¬ resets s →
    SameInputs s t ∧ secretText t = secretText s ∧ t.tLat = s.tLat

/-- LDSECRET leaves its text in SECRET_BUF and its length in SECRET_LEN, LDTS its value in TS_OVR, and neither changes
another register (R67). -/
def Obligations.LoadPseudoInstructionsLoad : Prop :=
  (∀ (s : State) (text : Bytes) (ops : List HostStep) (rest : List Move), s.Inv → s.phase = .idle →
    text.length ≤ s.secretCap → s.host = hostSteps (.ldsecret text) ++ ops →
    s.inputs = lineMoves (.ldsecret text) ++ rest →
    ∃ t, Host.Core.run Sys2Proof.core (text.length / 4 + (if text.length % 4 = 0 then 0 else 1) + 1) s = .next t ∧
      t.secretLen.toNat = text.length ∧ secretText t = text ∧ t.host = ops ∧ t.inputs = rest ∧
      (∀ i, 4 * ((text.length + 3) / 4) ≤ i → readChar t i = readChar s i) ∧
      { t with secretBuf := s.secretBuf, secretLen := s.secretLen, host := s.host, inputs := s.inputs } = s) ∧
  ∀ (s : State) (v : Stamp) (ops : List HostStep) (rest : List Move), s.phase = .idle →
    s.host = hostSteps (.ldts v) ++ ops → s.inputs = lineMoves (.ldts v) ++ rest →
    Host.Core.run Sys2Proof.core 2 s = .next { s with tsOvr := v, host := ops, inputs := rest }
end

