-- ==== Sys2Proof/Laws/Base32.lean ====
section
/-! SUPPORT. Bit strings read MSB first: lengths, concatenation, values and their inverse, slicing into bytes, and what
the filter keeps. -/

namespace Sys2Proof.Machine

@[simp] theorem bitsMsb_length (k v : Nat) : (bitsMsb k v).length = k := by simp [bitsMsb]

theorem bitsMsb_getElem? (k v i : Nat) (h : i < k) : (bitsMsb k v)[i]? = some (v.testBit (k - 1 - i)) := by
  simp [bitsMsb, List.getElem?_map, List.getElem?_range h]

/-- The high bits before the low bits. -/
theorem bitsMsb_append (a b x : Nat) : bitsMsb a (x / 2 ^ b) ++ bitsMsb b x = bitsMsb (a + b) x := by
  apply List.ext_getElem?
  intro i
  by_cases h : i < a
  · rw [List.getElem?_append_left (by simp [h]), bitsMsb_getElem? _ _ _ h, bitsMsb_getElem? _ _ _ (by omega),
      Nat.testBit_div_two_pow]
    congr 2; omega
  · rw [List.getElem?_append_right (by simp; omega), bitsMsb_length]
    by_cases h2 : i < a + b
    · rw [bitsMsb_getElem? _ _ _ (by omega), bitsMsb_getElem? _ _ _ h2]
      congr 2; omega
    · rw [List.getElem?_eq_none, List.getElem?_eq_none] <;> simp <;> omega

theorem ofBitsMsb_append_one (l : List Bool) (b : Bool) : ofBitsMsb (l ++ [b]) = 2 * ofBitsMsb l + b.toNat := by
  simp [ofBitsMsb]

/-- Reading back the low k bits of a value. -/
theorem ofBitsMsb_bitsMsb (k x : Nat) : ofBitsMsb (bitsMsb k x) = x % 2 ^ k := by
  induction k generalizing x with
  | zero => simp [bitsMsb, ofBitsMsb, Nat.mod_one]
  | succ k ih =>
    rw [← bitsMsb_append k 1 x, show bitsMsb 1 x = [x.testBit 0] by simp [bitsMsb], ofBitsMsb_append_one, ih,
      pow_one, Nat.testBit_zero, pow_succ', Nat.mod_mul]
    rcases Nat.mod_two_eq_zero_or_one x with h | h <;> simp [h, add_comm]

theorem ofBitsMsb_lt (l : List Bool) : ofBitsMsb l < 2 ^ l.length := by
  induction l using List.reverseRecOn with
  | nil => simp [ofBitsMsb]
  | append_singleton l b ih =>
    rw [ofBitsMsb_append_one]; simp only [List.length_append, List.length_singleton, pow_succ]
    cases b <;> simp <;> omega

/-- Slicing eight bits off gives their byte. -/
theorem bytesOfBits_cons (x : Nat) (r : List Bool) :
    bytesOfBits (bitsMsb 8 x ++ r) = BitVec.ofNat 8 x :: bytesOfBits r := by
  have h8 : bitsMsb 8 x = [x.testBit 7, x.testBit 6, x.testBit 5, x.testBit 4, x.testBit 3, x.testBit 2, x.testBit 1,
      x.testBit 0] := by simp [bitsMsb, List.range_succ]
  have e := ofBitsMsb_bitsMsb 8 x
  rw [h8] at e ⊢
  simp only [List.cons_append, List.nil_append, bytesOfBits, e]
  congr 1
  exact BitVec.eq_of_toNat_eq (by simp)

/-- Fewer than eight bits give no byte. -/
theorem bytesOfBits_short (l : List Bool) (h : l.length < 8) : bytesOfBits l = [] := by
  unfold bytesOfBits
  split
  · simp at h; omega
  · rfl

/-- A kept character is in the alphabet, and its index has five bits. -/
theorem sanitizeChar_kept {c u : Byte} (h : sanitizeChar c = some u) :
    ((0x41 ≤ u.toNat ∧ u.toNat ≤ 0x5A) ∨ (0x32 ≤ u.toNat ∧ u.toNat ≤ 0x37)) ∧ b32val u < 32 := by
  unfold sanitizeChar at h
  simp only at h
  split at h
  · injection h with h
    subst h
    refine ⟨by assumption, ?_⟩
    unfold b32val
    split <;> omega
  · cases h

/-- A character of the alphabet is kept as it is and has the index it stands for. -/
theorem b32char_kept : ∀ v, v < 32 → sanitizeChar (b32char v) = some (b32char v) ∧ b32val (b32char v) = v := by decide

end Sys2Proof.Machine
end

