-- ==== Sys2Proof/Laws/Memory.lean ====
section
/-! SUPPORT. The sparse byte store: a read after a write, and that every write keeps the canonical form. -/

namespace Sys2Proof.Machine

/-- Every index of a written store is the written one or was there before. -/
theorem Memory.mem_insert {c : Host.Cell} {i : Nat} {v : Byte} {m : Memory}
    (h : c ∈ Memory.insert i v m) : c = (i, v) ∨ c ∈ m := by
  induction m with
  | nil => exact .inl (by simpa [Memory.insert] using h)
  | cons d rest ih =>
    obtain ⟨j, b⟩ := d
    unfold Memory.insert at h
    split at h
    · simpa using h
    · split at h
      · rcases List.mem_cons.1 h with h | h
        · exact .inl h
        · exact .inr (List.mem_cons_of_mem _ h)
      · rcases List.mem_cons.1 h with h | h
        · exact .inr (h ▸ List.mem_cons_self)
        · exact (ih h).imp id (List.mem_cons_of_mem _)

/-- A write keeps the canonical form. -/
theorem Memory.insert_wf (i : Nat) (v : Byte) {m : Memory} (h : Memory.wf m) : Memory.wf (Memory.insert i v m) := by
  induction m with
  | nil => simp [Memory.wf, Memory.insert]
  | cons d rest ih =>
    obtain ⟨j, b⟩ := d
    have hj : ∀ c ∈ rest, j < c.1 := by
      intro c hc; exact (List.pairwise_cons.1 h).1 _ (List.mem_map_of_mem hc)
    have hr : Memory.wf rest := (List.pairwise_cons.1 h).2
    have head : ∀ (k : Nat) (l : Memory), (∀ c ∈ l, k < c.1) → Memory.wf l → ∀ x, Memory.wf ((k, x) :: l) := by
      intro k l hk hl x
      refine List.pairwise_cons.2 ⟨?_, hl⟩
      intro a ha
      obtain ⟨c, hc, rfl⟩ := List.mem_map.1 ha
      exact hk c hc
    unfold Memory.insert
    split
    · next hij =>
      refine head i _ (fun c hc => ?_) h v
      rcases List.mem_cons.1 hc with rfl | hc
      · exact hij
      · exact hij.trans (hj c hc)
    · split
      · next hij => subst hij; exact head i rest hj hr v
      · next h1 h2 =>
        refine head j _ (fun c hc => ?_) (ih hr) b
        rcases Memory.mem_insert hc with rfl | hc
        · exact lt_of_le_of_ne (Nat.le_of_not_lt h1) (Ne.symm h2)
        · exact hj c hc

/-- Writing consecutive bytes keeps the canonical form. -/
theorem Memory.insertAll_wf (vs : Bytes) : ∀ (i : Nat) {m : Memory}, Memory.wf m → Memory.wf (Memory.insertAll i vs m) := by
  induction vs with
  | nil => intro i m h; exact h
  | cons v vs ih => intro i m h; exact ih (i + 1) (Memory.insert_wf i v h)

/-- Every index of a store written from `i` on lies in the written range or was there before. -/
theorem Memory.mem_insertAll (vs : Bytes) : ∀ (i : Nat) {m : Memory} {c : Host.Cell},
    c ∈ Memory.insertAll i vs m → (i ≤ c.1 ∧ c.1 < i + vs.length) ∨ c ∈ m := by
  induction vs with
  | nil => intro i m c h; exact .inr h
  | cons v vs ih =>
    intro i m c h
    rcases ih (i + 1) h with h | h
    · left; simp only [List.length_cons]; omega
    · rcases Memory.mem_insert h with rfl | h
      · left; simp
      · exact .inr h

/-- A read after a write of the same byte gives the written value. -/
@[simp] theorem Memory.lookup_insert_self (i : Nat) (v : Byte) {m : Memory} (h : Memory.wf m) :
    Memory.lookup (Memory.insert i v m) i = some v := by
  induction m with
  | nil => simp [Memory.insert, Memory.lookup]
  | cons d rest ih =>
    obtain ⟨j, b⟩ := d
    unfold Memory.insert
    split
    · simp [Memory.lookup]
    · split
      · simp [Memory.lookup]
      · next h1 h2 => simp [Memory.lookup, h2, ih (List.pairwise_cons.1 h).2]

/-- A write leaves every other byte as it was. -/
theorem Memory.lookup_insert_ne {i k : Nat} (v : Byte) (hk : k ≠ i) (m : Memory) :
    Memory.lookup (Memory.insert i v m) k = Memory.lookup m k := by
  induction m with
  | nil => simp [Memory.insert, Memory.lookup, hk]
  | cons d rest ih =>
    obtain ⟨j, b⟩ := d
    unfold Memory.insert
    split
    · simp [Memory.lookup, hk]
    · split
      · next hij => subst hij; simp [Memory.lookup, hk]
      · simp only [Memory.lookup, ih]

/-- What consecutive writes leave at each index. -/
theorem Memory.lookup_insertAll (vs : Bytes) : ∀ (i : Nat) {m : Memory} (k : Nat), Memory.wf m →
    Memory.lookup (Memory.insertAll i vs m) k =
      if i ≤ k ∧ k < i + vs.length then vs[k - i]? else Memory.lookup m k := by
  induction vs with
  | nil => intro i m k _; simp [Memory.insertAll]
  | cons v vs ih =>
    intro i m k h
    rw [Memory.insertAll, ih (i + 1) k (Memory.insert_wf i v h)]
    rcases Nat.lt_trichotomy k i with hk | rfl | hk
    · rw [if_neg (by omega), if_neg (by simp; omega), Memory.lookup_insert_ne v (by omega)]
    · rw [if_neg (by omega), if_pos (by simp), Memory.lookup_insert_self k v h]; simp
    · by_cases hl : k < i + 1 + vs.length
      · rw [if_pos (by omega), if_pos (by simp; omega)]
        obtain ⟨n, rfl⟩ : ∃ n, k = i + 1 + n := ⟨k - (i + 1), by omega⟩
        have : i + 1 + n - i = n + 1 := by omega
        rw [this]; simp
      · rw [if_neg (by omega), if_neg (by simp; omega), Memory.lookup_insert_ne v (by omega)]

end Sys2Proof.Machine
end

