-- ==== Sys2Proof/Laws/Bus.lean ====
section
/-! SUPPORT. The register map read backwards, what a read returns, the lanes of a word, and SECRET_BUF after a window
write. -/

namespace Sys2Proof.Machine

/-! ### The register map -/

theorem regAt_eq_cmd {a : Nat} : regAt a = .cmd ↔ a = 0x000 := by
  unfold regAt; split <;> try simp
  split <;> (try split) <;> simp <;> omega

theorem regAt_eq_secretLen {a : Nat} : regAt a = .secretLen ↔ a = 0x00C := by
  unfold regAt; split <;> try simp
  split <;> (try split) <;> simp <;> omega

theorem regAt_eq_tsOvrLo {a : Nat} : regAt a = .tsOvrLo ↔ a = 0x010 := by
  unfold regAt; split <;> try simp
  split <;> (try split) <;> simp <;> omega

theorem regAt_eq_tsOvrHi {a : Nat} : regAt a = .tsOvrHi ↔ a = 0x014 := by
  unfold regAt; split <;> try simp
  split <;> (try split) <;> simp <;> omega

theorem regAt_eq_secretWin {a w : Nat} : regAt a = .secretWin w ↔ 0x400 ≤ a ∧ a < 0x800 ∧ w = (a - 0x400) / 4 := by
  unfold regAt; split <;> try simp
  split
  · simp; omega
  · split <;> simp <;> omega

theorem regAt_eq_keyWin {a w : Nat} : regAt a = .keyWin w ↔ 0x800 ≤ a ∧ a < 0xA80 ∧ w = (a - 0x800) / 4 := by
  unfold regAt; split <;> try simp
  split
  · simp; omega
  · split <;> simp <;> omega

/-! ### Reads -/

/-- A register without result bits reads exactly in every phase. -/
theorem memRead_exact {s : State} {off : Offset} {r : BusReg} (h : regOf off = r) (h0 : resultBits s.secretCap r = 0) :
    memRead s off = regWord s r := by
  unfold memRead readReg readsFree
  rw [h, h0]; simp

/-- Every register reads exactly while PHASE is IDLE. -/
theorem memRead_idle {s : State} {off : Offset} {r : BusReg} (h : regOf off = r) (hp : s.phase = .idle) :
    memRead s off = regWord s r := by
  unfold memRead readReg readsFree
  rw [h, hp]; simp

/-! ### SECRET_BUF after a write of one word of its window -/

theorem readChar_setSecretWord (s : State) (w : Nat) (v : Word) (i : Nat) (h : Memory.wf s.secretBuf) :
    readChar (setSecretWord w v s) i =
      if 4 * w ≤ i ∧ i < 4 * w + 4 then lane v (i - 4 * w) else readChar s i := by
  have hl : (lanes v).length = 4 := rfl
  unfold readChar setSecretWord
  simp only
  rw [Memory.lookup_insertAll _ _ _ h, hl]
  split
  · next h2 =>
    obtain ⟨d, hd, rfl⟩ : ∃ d, d < 4 ∧ i = 4 * w + d := ⟨i - 4 * w, by omega, by omega⟩
    have e : 4 * w + d - 4 * w = d := by omega
    rw [e]
    interval_cases d <;> rfl
  · rfl

/-- The window write keeps SECRET_BUF in canonical form. -/
theorem setSecretWord_wf (w : Nat) (v : Word) {s : State} (h : Memory.wf s.secretBuf) :
    Memory.wf (setSecretWord w v s).secretBuf := Memory.insertAll_wf _ _ h

/-- SECRET_BUF is in canonical form after reset. -/
theorem resetWith_wf (cap : Nat) : Memory.wf (State.resetWith cap).secretBuf := List.Pairwise.nil

end Sys2Proof.Machine
end

