-- ==== Sys2Proof/Laws/Decode.lean ====
section
/-! SUPPORT. The fields of a command word and the word of the fields are inverse, and what a rejection says. -/

namespace Sys2Proof

/-- The bits of the word of given fields (R59). -/
theorem Cmd32.getLsbD_toWord (c : Cmd32) (i : Nat) :
    c.toWord.getLsbD i =
      if i < 8 then c.opc.getLsbD i else if i = 8 then c.tsel else c.rsv.getLsbD (i - 9) := by
  simp only [Cmd32.toWord, BitVec.getLsbD_append, BitVec.getLsbD_ofBool]
  by_cases h8 : i < 8
  · simp [h8]
  · by_cases h9 : i = 8
    · subst h9; simp
    · have h1 : ¬ i - 8 < 1 := by omega
      have e : i - 8 - 1 = i - 9 := by omega
      simp [h8, h9, h1, e]

/-- No bit of a word is dropped by reading its fields. -/
theorem Cmd32.toWord_ofWord (w : Word) : (Cmd32.ofWord w).toWord = w := by
  apply BitVec.eq_of_getLsbD_eq
  intro i hi
  rw [Cmd32.getLsbD_toWord]
  simp only [Cmd32.ofWord, BitVec.getLsbD_extractLsb']
  by_cases h8 : i < 8
  · simp [h8]
  · by_cases h9 : i = 8
    · subst h9; simp
    · have e : 9 + (i - 9) = i := by omega
      have hb : i - 9 < 23 := by omega
      simp [h8, h9, e, hb]

/-- No field is dropped by writing the word. -/
theorem Cmd32.ofWord_toWord (c : Cmd32) : Cmd32.ofWord c.toWord = c := by
  obtain ⟨opc, tsel, rsv⟩ := c
  simp only [Cmd32.ofWord, Cmd32.mk.injEq]
  refine ⟨?_, by rw [Cmd32.getLsbD_toWord]; simp, ?_⟩
  · apply BitVec.eq_of_getLsbD_eq
    intro i hi
    simp only [BitVec.getLsbD_extractLsb', Cmd32.getLsbD_toWord]
    simp [hi]
  · apply BitVec.eq_of_getLsbD_eq
    intro i hi
    have h1 : ¬ 9 + i < 8 := by omega
    have h2 : ¬ 9 + i = 8 := by omega
    simp only [BitVec.getLsbD_extractLsb', Cmd32.getLsbD_toWord, h1, h2]
    simp [hi]

/-- A word whose reserved bits are set is illegal for that reason. -/
theorem decodeWord_reserved {w : Word} (h : (Cmd32.ofWord w).rsv ≠ 0) : decodeWord w = .illegal .reservedBits := by
  unfold decodeWord
  exact if_neg h

/-- A word whose reserved bits are 0 is read by the opcode map. -/
theorem decodeWord_fields {w : Word} (h : (Cmd32.ofWord w).rsv = 0) :
    decodeWord w = decodeFields (Cmd32.ofWord w).opc.toNat (Cmd32.ofWord w).tsel := by
  unfold decodeWord
  exact if_pos h

/-- The fields a command is decoded from are the fields of the command. -/
theorem fields_of_decodeFields {n : Nat} {b : Bool} {i : Instr} (h : decodeFields n b = .cmd i) :
    n = i.fields.opc.toNat ∧ b = i.fields.tsel := by
  unfold decodeFields at h
  split at h <;> first | (injection h with h; subst h; decide) | cases h

end Sys2Proof
end

