-- ==== Sys2Proof/Laws/State.lean ====
section
/-! SUPPORT. One lemma per field per named update of the state, each true by rfl, so that no later proof unfolds a
record update. -/

namespace Sys2Proof.Machine

section Updates
variable (s : State)

section
variable (e : Err)
@[simp] theorem complete_status : (complete e s).status = s.status.completed e := rfl
@[simp] theorem complete_secretCap : (complete e s).secretCap = s.secretCap := rfl
@[simp] theorem complete_secretLen : (complete e s).secretLen = s.secretLen := rfl
@[simp] theorem complete_secretBuf : (complete e s).secretBuf = s.secretBuf := rfl
@[simp] theorem complete_tsOvr : (complete e s).tsOvr = s.tsOvr := rfl
@[simp] theorem complete_tsUsed : (complete e s).tsUsed = s.tsUsed := rfl
@[simp] theorem complete_counter : (complete e s).counter = s.counter := rfl
@[simp] theorem complete_msg : (complete e s).msg = s.msg := rfl
@[simp] theorem complete_keyLen : (complete e s).keyLen = s.keyLen := rfl
@[simp] theorem complete_keyBuf : (complete e s).keyBuf = s.keyBuf := rfl
@[simp] theorem complete_digest : (complete e s).digest = s.digest := rfl
@[simp] theorem complete_offset : (complete e s).offset = s.offset := rfl
@[simp] theorem complete_bincode : (complete e s).bincode = s.bincode := rfl
@[simp] theorem complete_code : (complete e s).code = s.code := rfl
@[simp] theorem complete_codeStr : (complete e s).codeStr = s.codeStr := rfl
@[simp] theorem complete_secsRem : (complete e s).secsRem = s.secsRem := rfl
@[simp] theorem complete_ratioNum : (complete e s).ratioNum = s.ratioNum := rfl
@[simp] theorem complete_phase : (complete e s).phase = .idle := rfl
@[simp] theorem complete_cur : (complete e s).cur = none := rfl
@[simp] theorem complete_tLat : (complete e s).tLat = s.tLat := rfl
@[simp] theorem complete_outstanding : (complete e s).outstanding = s.outstanding := rfl
@[simp] theorem complete_portReq : (complete e s).portReq = s.portReq := rfl
@[simp] theorem complete_nowSec : (complete e s).nowSec = s.nowSec := rfl
@[simp] theorem complete_readData : (complete e s).readData = s.readData := rfl
@[simp] theorem complete_host : (complete e s).host = s.host := rfl
@[simp] theorem complete_inputs : (complete e s).inputs = s.inputs := rfl
@[simp] theorem complete_draws : (complete e s).draws = s.draws := rfl
@[simp] theorem complete_epoch : (complete e s).epoch = s.epoch := rfl
end

section
variable (w : Word)
@[simp] theorem offer_status : (offer w s).status = s.status.offered (opcodeBits w) := rfl
@[simp] theorem offer_secretCap : (offer w s).secretCap = s.secretCap := rfl
@[simp] theorem offer_secretLen : (offer w s).secretLen = s.secretLen := rfl
@[simp] theorem offer_secretBuf : (offer w s).secretBuf = s.secretBuf := rfl
@[simp] theorem offer_tsOvr : (offer w s).tsOvr = s.tsOvr := rfl
@[simp] theorem offer_tsUsed : (offer w s).tsUsed = s.tsUsed := rfl
@[simp] theorem offer_counter : (offer w s).counter = s.counter := rfl
@[simp] theorem offer_msg : (offer w s).msg = s.msg := rfl
@[simp] theorem offer_keyLen : (offer w s).keyLen = s.keyLen := rfl
@[simp] theorem offer_keyBuf : (offer w s).keyBuf = s.keyBuf := rfl
@[simp] theorem offer_digest : (offer w s).digest = s.digest := rfl
@[simp] theorem offer_offset : (offer w s).offset = s.offset := rfl
@[simp] theorem offer_bincode : (offer w s).bincode = s.bincode := rfl
@[simp] theorem offer_code : (offer w s).code = s.code := rfl
@[simp] theorem offer_codeStr : (offer w s).codeStr = s.codeStr := rfl
@[simp] theorem offer_secsRem : (offer w s).secsRem = s.secsRem := rfl
@[simp] theorem offer_ratioNum : (offer w s).ratioNum = s.ratioNum := rfl
@[simp] theorem offer_phase : (offer w s).phase = s.phase := rfl
@[simp] theorem offer_cur : (offer w s).cur = s.cur := rfl
@[simp] theorem offer_tLat : (offer w s).tLat = s.tLat := rfl
@[simp] theorem offer_outstanding : (offer w s).outstanding = s.outstanding := rfl
@[simp] theorem offer_portReq : (offer w s).portReq = s.portReq := rfl
@[simp] theorem offer_nowSec : (offer w s).nowSec = s.nowSec := rfl
@[simp] theorem offer_readData : (offer w s).readData = s.readData := rfl
@[simp] theorem offer_host : (offer w s).host = s.host := rfl
@[simp] theorem offer_inputs : (offer w s).inputs = s.inputs := rfl
@[simp] theorem offer_draws : (offer w s).draws = s.draws := rfl
@[simp] theorem offer_epoch : (offer w s).epoch = s.epoch := rfl
end

section
variable (b : Bool)
@[simp] theorem latchTime_status : (latchTime b s).status = s.status := rfl
@[simp] theorem latchTime_secretCap : (latchTime b s).secretCap = s.secretCap := rfl
@[simp] theorem latchTime_secretLen : (latchTime b s).secretLen = s.secretLen := rfl
@[simp] theorem latchTime_secretBuf : (latchTime b s).secretBuf = s.secretBuf := rfl
@[simp] theorem latchTime_tsOvr : (latchTime b s).tsOvr = s.tsOvr := rfl
@[simp] theorem latchTime_tsUsed : (latchTime b s).tsUsed = s.tsUsed := rfl
@[simp] theorem latchTime_counter : (latchTime b s).counter = s.counter := rfl
@[simp] theorem latchTime_msg : (latchTime b s).msg = s.msg := rfl
@[simp] theorem latchTime_keyLen : (latchTime b s).keyLen = s.keyLen := rfl
@[simp] theorem latchTime_keyBuf : (latchTime b s).keyBuf = s.keyBuf := rfl
@[simp] theorem latchTime_digest : (latchTime b s).digest = s.digest := rfl
@[simp] theorem latchTime_offset : (latchTime b s).offset = s.offset := rfl
@[simp] theorem latchTime_bincode : (latchTime b s).bincode = s.bincode := rfl
@[simp] theorem latchTime_code : (latchTime b s).code = s.code := rfl
@[simp] theorem latchTime_codeStr : (latchTime b s).codeStr = s.codeStr := rfl
@[simp] theorem latchTime_secsRem : (latchTime b s).secsRem = s.secsRem := rfl
@[simp] theorem latchTime_ratioNum : (latchTime b s).ratioNum = s.ratioNum := rfl
@[simp] theorem latchTime_phase : (latchTime b s).phase = s.phase := rfl
@[simp] theorem latchTime_cur : (latchTime b s).cur = s.cur := rfl
@[simp] theorem latchTime_tLat : (latchTime b s).tLat = sampleTime b s := rfl
@[simp] theorem latchTime_outstanding : (latchTime b s).outstanding = s.outstanding := rfl
@[simp] theorem latchTime_portReq : (latchTime b s).portReq = s.portReq := rfl
@[simp] theorem latchTime_nowSec : (latchTime b s).nowSec = s.nowSec := rfl
@[simp] theorem latchTime_readData : (latchTime b s).readData = s.readData := rfl
@[simp] theorem latchTime_host : (latchTime b s).host = s.host := rfl
@[simp] theorem latchTime_inputs : (latchTime b s).inputs = s.inputs := rfl
@[simp] theorem latchTime_draws : (latchTime b s).draws = if sampleDraws b s then s.draws + 1 else s.draws := rfl
@[simp] theorem latchTime_epoch : (latchTime b s).epoch = s.epoch := rfl
end

section
variable (i : Instr)
@[simp] theorem enterExec_status : (enterExec i s).status = s.status.started := rfl
@[simp] theorem enterExec_secretCap : (enterExec i s).secretCap = s.secretCap := rfl
@[simp] theorem enterExec_secretLen : (enterExec i s).secretLen = s.secretLen := rfl
@[simp] theorem enterExec_secretBuf : (enterExec i s).secretBuf = s.secretBuf := rfl
@[simp] theorem enterExec_tsOvr : (enterExec i s).tsOvr = s.tsOvr := rfl
@[simp] theorem enterExec_tsUsed : (enterExec i s).tsUsed = s.tsUsed := rfl
@[simp] theorem enterExec_counter : (enterExec i s).counter = s.counter := rfl
@[simp] theorem enterExec_msg : (enterExec i s).msg = s.msg := rfl
@[simp] theorem enterExec_keyLen : (enterExec i s).keyLen = s.keyLen := rfl
@[simp] theorem enterExec_keyBuf : (enterExec i s).keyBuf = s.keyBuf := rfl
@[simp] theorem enterExec_digest : (enterExec i s).digest = s.digest := rfl
@[simp] theorem enterExec_offset : (enterExec i s).offset = s.offset := rfl
@[simp] theorem enterExec_bincode : (enterExec i s).bincode = s.bincode := rfl
@[simp] theorem enterExec_code : (enterExec i s).code = s.code := rfl
@[simp] theorem enterExec_codeStr : (enterExec i s).codeStr = s.codeStr := rfl
@[simp] theorem enterExec_secsRem : (enterExec i s).secsRem = s.secsRem := rfl
@[simp] theorem enterExec_ratioNum : (enterExec i s).ratioNum = s.ratioNum := rfl
@[simp] theorem enterExec_phase : (enterExec i s).phase = .exec := rfl
@[simp] theorem enterExec_cur : (enterExec i s).cur = some i := rfl
@[simp] theorem enterExec_tLat : (enterExec i s).tLat = s.tLat := rfl
@[simp] theorem enterExec_outstanding : (enterExec i s).outstanding = s.outstanding := rfl
@[simp] theorem enterExec_portReq : (enterExec i s).portReq = s.portReq := rfl
@[simp] theorem enterExec_nowSec : (enterExec i s).nowSec = s.nowSec := rfl
@[simp] theorem enterExec_readData : (enterExec i s).readData = s.readData := rfl
@[simp] theorem enterExec_host : (enterExec i s).host = s.host := rfl
@[simp] theorem enterExec_inputs : (enterExec i s).inputs = s.inputs := rfl
@[simp] theorem enterExec_draws : (enterExec i s).draws = s.draws := rfl
@[simp] theorem enterExec_epoch : (enterExec i s).epoch = s.epoch := rfl
end

section
variable (k : Bytes)
@[simp] theorem loadKey_status : (loadKey k s).status = s.status.noteFormat s.secretLen.toNat k.length := rfl
@[simp] theorem loadKey_secretCap : (loadKey k s).secretCap = s.secretCap := rfl
@[simp] theorem loadKey_secretLen : (loadKey k s).secretLen = s.secretLen := rfl
@[simp] theorem loadKey_secretBuf : (loadKey k s).secretBuf = s.secretBuf := rfl
@[simp] theorem loadKey_tsOvr : (loadKey k s).tsOvr = s.tsOvr := rfl
@[simp] theorem loadKey_tsUsed : (loadKey k s).tsUsed = s.tsUsed := rfl
@[simp] theorem loadKey_counter : (loadKey k s).counter = s.counter := rfl
@[simp] theorem loadKey_msg : (loadKey k s).msg = s.msg := rfl
@[simp] theorem loadKey_keyLen : (loadKey k s).keyLen = BitVec.ofNat 10 k.length := rfl
@[simp] theorem loadKey_keyBuf : (loadKey k s).keyBuf = k ++ zeros (Config.keyCap s.secretCap - k.length) := rfl
@[simp] theorem loadKey_digest : (loadKey k s).digest = s.digest := rfl
@[simp] theorem loadKey_offset : (loadKey k s).offset = s.offset := rfl
@[simp] theorem loadKey_bincode : (loadKey k s).bincode = s.bincode := rfl
@[simp] theorem loadKey_code : (loadKey k s).code = s.code := rfl
@[simp] theorem loadKey_codeStr : (loadKey k s).codeStr = s.codeStr := rfl
@[simp] theorem loadKey_secsRem : (loadKey k s).secsRem = s.secsRem := rfl
@[simp] theorem loadKey_ratioNum : (loadKey k s).ratioNum = s.ratioNum := rfl
@[simp] theorem loadKey_phase : (loadKey k s).phase = s.phase := rfl
@[simp] theorem loadKey_cur : (loadKey k s).cur = s.cur := rfl
@[simp] theorem loadKey_tLat : (loadKey k s).tLat = s.tLat := rfl
@[simp] theorem loadKey_outstanding : (loadKey k s).outstanding = s.outstanding := rfl
@[simp] theorem loadKey_portReq : (loadKey k s).portReq = s.portReq := rfl
@[simp] theorem loadKey_nowSec : (loadKey k s).nowSec = s.nowSec := rfl
@[simp] theorem loadKey_readData : (loadKey k s).readData = s.readData := rfl
@[simp] theorem loadKey_host : (loadKey k s).host = s.host := rfl
@[simp] theorem loadKey_inputs : (loadKey k s).inputs = s.inputs := rfl
@[simp] theorem loadKey_draws : (loadKey k s).draws = s.draws := rfl
@[simp] theorem loadKey_epoch : (loadKey k s).epoch = s.epoch := rfl
end

section
@[simp] theorem zeroize_status : (zeroize s).status = s.status := rfl
@[simp] theorem zeroize_secretCap : (zeroize s).secretCap = s.secretCap := rfl
@[simp] theorem zeroize_secretLen : (zeroize s).secretLen = s.secretLen := rfl
@[simp] theorem zeroize_secretBuf : (zeroize s).secretBuf = s.secretBuf := rfl
@[simp] theorem zeroize_tsOvr : (zeroize s).tsOvr = s.tsOvr := rfl
@[simp] theorem zeroize_tsUsed : (zeroize s).tsUsed = s.tsUsed := rfl
@[simp] theorem zeroize_counter : (zeroize s).counter = s.counter := rfl
@[simp] theorem zeroize_msg : (zeroize s).msg = s.msg := rfl
@[simp] theorem zeroize_keyLen : (zeroize s).keyLen = 0 := rfl
@[simp] theorem zeroize_keyBuf : (zeroize s).keyBuf = zeros (Config.keyCap s.secretCap) := rfl
@[simp] theorem zeroize_digest : (zeroize s).digest = s.digest := rfl
@[simp] theorem zeroize_offset : (zeroize s).offset = s.offset := rfl
@[simp] theorem zeroize_bincode : (zeroize s).bincode = s.bincode := rfl
@[simp] theorem zeroize_code : (zeroize s).code = s.code := rfl
@[simp] theorem zeroize_codeStr : (zeroize s).codeStr = s.codeStr := rfl
@[simp] theorem zeroize_secsRem : (zeroize s).secsRem = s.secsRem := rfl
@[simp] theorem zeroize_ratioNum : (zeroize s).ratioNum = s.ratioNum := rfl
@[simp] theorem zeroize_phase : (zeroize s).phase = s.phase := rfl
@[simp] theorem zeroize_cur : (zeroize s).cur = s.cur := rfl
@[simp] theorem zeroize_tLat : (zeroize s).tLat = s.tLat := rfl
@[simp] theorem zeroize_outstanding : (zeroize s).outstanding = s.outstanding := rfl
@[simp] theorem zeroize_portReq : (zeroize s).portReq = s.portReq := rfl
@[simp] theorem zeroize_nowSec : (zeroize s).nowSec = s.nowSec := rfl
@[simp] theorem zeroize_readData : (zeroize s).readData = s.readData := rfl
@[simp] theorem zeroize_host : (zeroize s).host = s.host := rfl
@[simp] theorem zeroize_inputs : (zeroize s).inputs = s.inputs := rfl
@[simp] theorem zeroize_draws : (zeroize s).draws = s.draws := rfl
@[simp] theorem zeroize_epoch : (zeroize s).epoch = s.epoch := rfl
end

section
@[simp] theorem recordTime_status : (recordTime s).status = s.status := rfl
@[simp] theorem recordTime_secretCap : (recordTime s).secretCap = s.secretCap := rfl
@[simp] theorem recordTime_secretLen : (recordTime s).secretLen = s.secretLen := rfl
@[simp] theorem recordTime_secretBuf : (recordTime s).secretBuf = s.secretBuf := rfl
@[simp] theorem recordTime_tsOvr : (recordTime s).tsOvr = s.tsOvr := rfl
@[simp] theorem recordTime_tsUsed : (recordTime s).tsUsed = s.tLat := rfl
@[simp] theorem recordTime_counter : (recordTime s).counter = s.counter := rfl
@[simp] theorem recordTime_msg : (recordTime s).msg = s.msg := rfl
@[simp] theorem recordTime_keyLen : (recordTime s).keyLen = s.keyLen := rfl
@[simp] theorem recordTime_keyBuf : (recordTime s).keyBuf = s.keyBuf := rfl
@[simp] theorem recordTime_digest : (recordTime s).digest = s.digest := rfl
@[simp] theorem recordTime_offset : (recordTime s).offset = s.offset := rfl
@[simp] theorem recordTime_bincode : (recordTime s).bincode = s.bincode := rfl
@[simp] theorem recordTime_code : (recordTime s).code = s.code := rfl
@[simp] theorem recordTime_codeStr : (recordTime s).codeStr = s.codeStr := rfl
@[simp] theorem recordTime_secsRem : (recordTime s).secsRem = s.secsRem := rfl
@[simp] theorem recordTime_ratioNum : (recordTime s).ratioNum = s.ratioNum := rfl
@[simp] theorem recordTime_phase : (recordTime s).phase = s.phase := rfl
@[simp] theorem recordTime_cur : (recordTime s).cur = s.cur := rfl
@[simp] theorem recordTime_tLat : (recordTime s).tLat = s.tLat := rfl
@[simp] theorem recordTime_outstanding : (recordTime s).outstanding = s.outstanding := rfl
@[simp] theorem recordTime_portReq : (recordTime s).portReq = s.portReq := rfl
@[simp] theorem recordTime_nowSec : (recordTime s).nowSec = s.nowSec := rfl
@[simp] theorem recordTime_readData : (recordTime s).readData = s.readData := rfl
@[simp] theorem recordTime_host : (recordTime s).host = s.host := rfl
@[simp] theorem recordTime_inputs : (recordTime s).inputs = s.inputs := rfl
@[simp] theorem recordTime_draws : (recordTime s).draws = s.draws := rfl
@[simp] theorem recordTime_epoch : (recordTime s).epoch = s.epoch := rfl
end

section
variable (c : Stamp)
@[simp] theorem setCounter_status : (setCounter c s).status = s.status := rfl
@[simp] theorem setCounter_secretCap : (setCounter c s).secretCap = s.secretCap := rfl
@[simp] theorem setCounter_secretLen : (setCounter c s).secretLen = s.secretLen := rfl
@[simp] theorem setCounter_secretBuf : (setCounter c s).secretBuf = s.secretBuf := rfl
@[simp] theorem setCounter_tsOvr : (setCounter c s).tsOvr = s.tsOvr := rfl
@[simp] theorem setCounter_tsUsed : (setCounter c s).tsUsed = s.tsUsed := rfl
@[simp] theorem setCounter_counter : (setCounter c s).counter = c := rfl
@[simp] theorem setCounter_msg : (setCounter c s).msg = s.msg := rfl
@[simp] theorem setCounter_keyLen : (setCounter c s).keyLen = s.keyLen := rfl
@[simp] theorem setCounter_keyBuf : (setCounter c s).keyBuf = s.keyBuf := rfl
@[simp] theorem setCounter_digest : (setCounter c s).digest = s.digest := rfl
@[simp] theorem setCounter_offset : (setCounter c s).offset = s.offset := rfl
@[simp] theorem setCounter_bincode : (setCounter c s).bincode = s.bincode := rfl
@[simp] theorem setCounter_code : (setCounter c s).code = s.code := rfl
@[simp] theorem setCounter_codeStr : (setCounter c s).codeStr = s.codeStr := rfl
@[simp] theorem setCounter_secsRem : (setCounter c s).secsRem = s.secsRem := rfl
@[simp] theorem setCounter_ratioNum : (setCounter c s).ratioNum = s.ratioNum := rfl
@[simp] theorem setCounter_phase : (setCounter c s).phase = s.phase := rfl
@[simp] theorem setCounter_cur : (setCounter c s).cur = s.cur := rfl
@[simp] theorem setCounter_tLat : (setCounter c s).tLat = s.tLat := rfl
@[simp] theorem setCounter_outstanding : (setCounter c s).outstanding = s.outstanding := rfl
@[simp] theorem setCounter_portReq : (setCounter c s).portReq = s.portReq := rfl
@[simp] theorem setCounter_nowSec : (setCounter c s).nowSec = s.nowSec := rfl
@[simp] theorem setCounter_readData : (setCounter c s).readData = s.readData := rfl
@[simp] theorem setCounter_host : (setCounter c s).host = s.host := rfl
@[simp] theorem setCounter_inputs : (setCounter c s).inputs = s.inputs := rfl
@[simp] theorem setCounter_draws : (setCounter c s).draws = s.draws := rfl
@[simp] theorem setCounter_epoch : (setCounter c s).epoch = s.epoch := rfl
end

section
variable (m : Msg)
@[simp] theorem setMsg_status : (setMsg m s).status = s.status := rfl
@[simp] theorem setMsg_secretCap : (setMsg m s).secretCap = s.secretCap := rfl
@[simp] theorem setMsg_secretLen : (setMsg m s).secretLen = s.secretLen := rfl
@[simp] theorem setMsg_secretBuf : (setMsg m s).secretBuf = s.secretBuf := rfl
@[simp] theorem setMsg_tsOvr : (setMsg m s).tsOvr = s.tsOvr := rfl
@[simp] theorem setMsg_tsUsed : (setMsg m s).tsUsed = s.tsUsed := rfl
@[simp] theorem setMsg_counter : (setMsg m s).counter = s.counter := rfl
@[simp] theorem setMsg_msg : (setMsg m s).msg = m := rfl
@[simp] theorem setMsg_keyLen : (setMsg m s).keyLen = s.keyLen := rfl
@[simp] theorem setMsg_keyBuf : (setMsg m s).keyBuf = s.keyBuf := rfl
@[simp] theorem setMsg_digest : (setMsg m s).digest = s.digest := rfl
@[simp] theorem setMsg_offset : (setMsg m s).offset = s.offset := rfl
@[simp] theorem setMsg_bincode : (setMsg m s).bincode = s.bincode := rfl
@[simp] theorem setMsg_code : (setMsg m s).code = s.code := rfl
@[simp] theorem setMsg_codeStr : (setMsg m s).codeStr = s.codeStr := rfl
@[simp] theorem setMsg_secsRem : (setMsg m s).secsRem = s.secsRem := rfl
@[simp] theorem setMsg_ratioNum : (setMsg m s).ratioNum = s.ratioNum := rfl
@[simp] theorem setMsg_phase : (setMsg m s).phase = s.phase := rfl
@[simp] theorem setMsg_cur : (setMsg m s).cur = s.cur := rfl
@[simp] theorem setMsg_tLat : (setMsg m s).tLat = s.tLat := rfl
@[simp] theorem setMsg_outstanding : (setMsg m s).outstanding = s.outstanding := rfl
@[simp] theorem setMsg_portReq : (setMsg m s).portReq = s.portReq := rfl
@[simp] theorem setMsg_nowSec : (setMsg m s).nowSec = s.nowSec := rfl
@[simp] theorem setMsg_readData : (setMsg m s).readData = s.readData := rfl
@[simp] theorem setMsg_host : (setMsg m s).host = s.host := rfl
@[simp] theorem setMsg_inputs : (setMsg m s).inputs = s.inputs := rfl
@[simp] theorem setMsg_draws : (setMsg m s).draws = s.draws := rfl
@[simp] theorem setMsg_epoch : (setMsg m s).epoch = s.epoch := rfl
end

section
variable (d : Digest)
@[simp] theorem setDigest_status : (setDigest d s).status = s.status := rfl
@[simp] theorem setDigest_secretCap : (setDigest d s).secretCap = s.secretCap := rfl
@[simp] theorem setDigest_secretLen : (setDigest d s).secretLen = s.secretLen := rfl
@[simp] theorem setDigest_secretBuf : (setDigest d s).secretBuf = s.secretBuf := rfl
@[simp] theorem setDigest_tsOvr : (setDigest d s).tsOvr = s.tsOvr := rfl
@[simp] theorem setDigest_tsUsed : (setDigest d s).tsUsed = s.tsUsed := rfl
@[simp] theorem setDigest_counter : (setDigest d s).counter = s.counter := rfl
@[simp] theorem setDigest_msg : (setDigest d s).msg = s.msg := rfl
@[simp] theorem setDigest_keyLen : (setDigest d s).keyLen = s.keyLen := rfl
@[simp] theorem setDigest_keyBuf : (setDigest d s).keyBuf = s.keyBuf := rfl
@[simp] theorem setDigest_digest : (setDigest d s).digest = d := rfl
@[simp] theorem setDigest_offset : (setDigest d s).offset = s.offset := rfl
@[simp] theorem setDigest_bincode : (setDigest d s).bincode = s.bincode := rfl
@[simp] theorem setDigest_code : (setDigest d s).code = s.code := rfl
@[simp] theorem setDigest_codeStr : (setDigest d s).codeStr = s.codeStr := rfl
@[simp] theorem setDigest_secsRem : (setDigest d s).secsRem = s.secsRem := rfl
@[simp] theorem setDigest_ratioNum : (setDigest d s).ratioNum = s.ratioNum := rfl
@[simp] theorem setDigest_phase : (setDigest d s).phase = s.phase := rfl
@[simp] theorem setDigest_cur : (setDigest d s).cur = s.cur := rfl
@[simp] theorem setDigest_tLat : (setDigest d s).tLat = s.tLat := rfl
@[simp] theorem setDigest_outstanding : (setDigest d s).outstanding = s.outstanding := rfl
@[simp] theorem setDigest_portReq : (setDigest d s).portReq = s.portReq := rfl
@[simp] theorem setDigest_nowSec : (setDigest d s).nowSec = s.nowSec := rfl
@[simp] theorem setDigest_readData : (setDigest d s).readData = s.readData := rfl
@[simp] theorem setDigest_host : (setDigest d s).host = s.host := rfl
@[simp] theorem setDigest_inputs : (setDigest d s).inputs = s.inputs := rfl
@[simp] theorem setDigest_draws : (setDigest d s).draws = s.draws := rfl
@[simp] theorem setDigest_epoch : (setDigest d s).epoch = s.epoch := rfl
end

section
variable (o : BitVec 4) (b : BitVec 31) (c : BitVec 20) (r : CodeStr)
@[simp] theorem setTruncation_status : (setTruncation o b c r s).status = s.status := rfl
@[simp] theorem setTruncation_secretCap : (setTruncation o b c r s).secretCap = s.secretCap := rfl
@[simp] theorem setTruncation_secretLen : (setTruncation o b c r s).secretLen = s.secretLen := rfl
@[simp] theorem setTruncation_secretBuf : (setTruncation o b c r s).secretBuf = s.secretBuf := rfl
@[simp] theorem setTruncation_tsOvr : (setTruncation o b c r s).tsOvr = s.tsOvr := rfl
@[simp] theorem setTruncation_tsUsed : (setTruncation o b c r s).tsUsed = s.tsUsed := rfl
@[simp] theorem setTruncation_counter : (setTruncation o b c r s).counter = s.counter := rfl
@[simp] theorem setTruncation_msg : (setTruncation o b c r s).msg = s.msg := rfl
@[simp] theorem setTruncation_keyLen : (setTruncation o b c r s).keyLen = s.keyLen := rfl
@[simp] theorem setTruncation_keyBuf : (setTruncation o b c r s).keyBuf = s.keyBuf := rfl
@[simp] theorem setTruncation_digest : (setTruncation o b c r s).digest = s.digest := rfl
@[simp] theorem setTruncation_offset : (setTruncation o b c r s).offset = o := rfl
@[simp] theorem setTruncation_bincode : (setTruncation o b c r s).bincode = b := rfl
@[simp] theorem setTruncation_code : (setTruncation o b c r s).code = c := rfl
@[simp] theorem setTruncation_codeStr : (setTruncation o b c r s).codeStr = r := rfl
@[simp] theorem setTruncation_secsRem : (setTruncation o b c r s).secsRem = s.secsRem := rfl
@[simp] theorem setTruncation_ratioNum : (setTruncation o b c r s).ratioNum = s.ratioNum := rfl
@[simp] theorem setTruncation_phase : (setTruncation o b c r s).phase = s.phase := rfl
@[simp] theorem setTruncation_cur : (setTruncation o b c r s).cur = s.cur := rfl
@[simp] theorem setTruncation_tLat : (setTruncation o b c r s).tLat = s.tLat := rfl
@[simp] theorem setTruncation_outstanding : (setTruncation o b c r s).outstanding = s.outstanding := rfl
@[simp] theorem setTruncation_portReq : (setTruncation o b c r s).portReq = s.portReq := rfl
@[simp] theorem setTruncation_nowSec : (setTruncation o b c r s).nowSec = s.nowSec := rfl
@[simp] theorem setTruncation_readData : (setTruncation o b c r s).readData = s.readData := rfl
@[simp] theorem setTruncation_host : (setTruncation o b c r s).host = s.host := rfl
@[simp] theorem setTruncation_inputs : (setTruncation o b c r s).inputs = s.inputs := rfl
@[simp] theorem setTruncation_draws : (setTruncation o b c r s).draws = s.draws := rfl
@[simp] theorem setTruncation_epoch : (setTruncation o b c r s).epoch = s.epoch := rfl
end

section
variable (r : CodeStr)
@[simp] theorem setCodeStr_status : (setCodeStr r s).status = s.status := rfl
@[simp] theorem setCodeStr_secretCap : (setCodeStr r s).secretCap = s.secretCap := rfl
@[simp] theorem setCodeStr_secretLen : (setCodeStr r s).secretLen = s.secretLen := rfl
@[simp] theorem setCodeStr_secretBuf : (setCodeStr r s).secretBuf = s.secretBuf := rfl
@[simp] theorem setCodeStr_tsOvr : (setCodeStr r s).tsOvr = s.tsOvr := rfl
@[simp] theorem setCodeStr_tsUsed : (setCodeStr r s).tsUsed = s.tsUsed := rfl
@[simp] theorem setCodeStr_counter : (setCodeStr r s).counter = s.counter := rfl
@[simp] theorem setCodeStr_msg : (setCodeStr r s).msg = s.msg := rfl
@[simp] theorem setCodeStr_keyLen : (setCodeStr r s).keyLen = s.keyLen := rfl
@[simp] theorem setCodeStr_keyBuf : (setCodeStr r s).keyBuf = s.keyBuf := rfl
@[simp] theorem setCodeStr_digest : (setCodeStr r s).digest = s.digest := rfl
@[simp] theorem setCodeStr_offset : (setCodeStr r s).offset = s.offset := rfl
@[simp] theorem setCodeStr_bincode : (setCodeStr r s).bincode = s.bincode := rfl
@[simp] theorem setCodeStr_code : (setCodeStr r s).code = s.code := rfl
@[simp] theorem setCodeStr_codeStr : (setCodeStr r s).codeStr = r := rfl
@[simp] theorem setCodeStr_secsRem : (setCodeStr r s).secsRem = s.secsRem := rfl
@[simp] theorem setCodeStr_ratioNum : (setCodeStr r s).ratioNum = s.ratioNum := rfl
@[simp] theorem setCodeStr_phase : (setCodeStr r s).phase = s.phase := rfl
@[simp] theorem setCodeStr_cur : (setCodeStr r s).cur = s.cur := rfl
@[simp] theorem setCodeStr_tLat : (setCodeStr r s).tLat = s.tLat := rfl
@[simp] theorem setCodeStr_outstanding : (setCodeStr r s).outstanding = s.outstanding := rfl
@[simp] theorem setCodeStr_portReq : (setCodeStr r s).portReq = s.portReq := rfl
@[simp] theorem setCodeStr_nowSec : (setCodeStr r s).nowSec = s.nowSec := rfl
@[simp] theorem setCodeStr_readData : (setCodeStr r s).readData = s.readData := rfl
@[simp] theorem setCodeStr_host : (setCodeStr r s).host = s.host := rfl
@[simp] theorem setCodeStr_inputs : (setCodeStr r s).inputs = s.inputs := rfl
@[simp] theorem setCodeStr_draws : (setCodeStr r s).draws = s.draws := rfl
@[simp] theorem setCodeStr_epoch : (setCodeStr r s).epoch = s.epoch := rfl
end

section
variable (v : BitVec 5)
@[simp] theorem setSecsRem_status : (setSecsRem v s).status = s.status := rfl
@[simp] theorem setSecsRem_secretCap : (setSecsRem v s).secretCap = s.secretCap := rfl
@[simp] theorem setSecsRem_secretLen : (setSecsRem v s).secretLen = s.secretLen := rfl
@[simp] theorem setSecsRem_secretBuf : (setSecsRem v s).secretBuf = s.secretBuf := rfl
@[simp] theorem setSecsRem_tsOvr : (setSecsRem v s).tsOvr = s.tsOvr := rfl
@[simp] theorem setSecsRem_tsUsed : (setSecsRem v s).tsUsed = s.tsUsed := rfl
@[simp] theorem setSecsRem_counter : (setSecsRem v s).counter = s.counter := rfl
@[simp] theorem setSecsRem_msg : (setSecsRem v s).msg = s.msg := rfl
@[simp] theorem setSecsRem_keyLen : (setSecsRem v s).keyLen = s.keyLen := rfl
@[simp] theorem setSecsRem_keyBuf : (setSecsRem v s).keyBuf = s.keyBuf := rfl
@[simp] theorem setSecsRem_digest : (setSecsRem v s).digest = s.digest := rfl
@[simp] theorem setSecsRem_offset : (setSecsRem v s).offset = s.offset := rfl
@[simp] theorem setSecsRem_bincode : (setSecsRem v s).bincode = s.bincode := rfl
@[simp] theorem setSecsRem_code : (setSecsRem v s).code = s.code := rfl
@[simp] theorem setSecsRem_codeStr : (setSecsRem v s).codeStr = s.codeStr := rfl
@[simp] theorem setSecsRem_secsRem : (setSecsRem v s).secsRem = v := rfl
@[simp] theorem setSecsRem_ratioNum : (setSecsRem v s).ratioNum = s.ratioNum := rfl
@[simp] theorem setSecsRem_phase : (setSecsRem v s).phase = s.phase := rfl
@[simp] theorem setSecsRem_cur : (setSecsRem v s).cur = s.cur := rfl
@[simp] theorem setSecsRem_tLat : (setSecsRem v s).tLat = s.tLat := rfl
@[simp] theorem setSecsRem_outstanding : (setSecsRem v s).outstanding = s.outstanding := rfl
@[simp] theorem setSecsRem_portReq : (setSecsRem v s).portReq = s.portReq := rfl
@[simp] theorem setSecsRem_nowSec : (setSecsRem v s).nowSec = s.nowSec := rfl
@[simp] theorem setSecsRem_readData : (setSecsRem v s).readData = s.readData := rfl
@[simp] theorem setSecsRem_host : (setSecsRem v s).host = s.host := rfl
@[simp] theorem setSecsRem_inputs : (setSecsRem v s).inputs = s.inputs := rfl
@[simp] theorem setSecsRem_draws : (setSecsRem v s).draws = s.draws := rfl
@[simp] theorem setSecsRem_epoch : (setSecsRem v s).epoch = s.epoch := rfl
end

section
variable (v : BitVec 5)
@[simp] theorem setRatioNum_status : (setRatioNum v s).status = s.status := rfl
@[simp] theorem setRatioNum_secretCap : (setRatioNum v s).secretCap = s.secretCap := rfl
@[simp] theorem setRatioNum_secretLen : (setRatioNum v s).secretLen = s.secretLen := rfl
@[simp] theorem setRatioNum_secretBuf : (setRatioNum v s).secretBuf = s.secretBuf := rfl
@[simp] theorem setRatioNum_tsOvr : (setRatioNum v s).tsOvr = s.tsOvr := rfl
@[simp] theorem setRatioNum_tsUsed : (setRatioNum v s).tsUsed = s.tsUsed := rfl
@[simp] theorem setRatioNum_counter : (setRatioNum v s).counter = s.counter := rfl
@[simp] theorem setRatioNum_msg : (setRatioNum v s).msg = s.msg := rfl
@[simp] theorem setRatioNum_keyLen : (setRatioNum v s).keyLen = s.keyLen := rfl
@[simp] theorem setRatioNum_keyBuf : (setRatioNum v s).keyBuf = s.keyBuf := rfl
@[simp] theorem setRatioNum_digest : (setRatioNum v s).digest = s.digest := rfl
@[simp] theorem setRatioNum_offset : (setRatioNum v s).offset = s.offset := rfl
@[simp] theorem setRatioNum_bincode : (setRatioNum v s).bincode = s.bincode := rfl
@[simp] theorem setRatioNum_code : (setRatioNum v s).code = s.code := rfl
@[simp] theorem setRatioNum_codeStr : (setRatioNum v s).codeStr = s.codeStr := rfl
@[simp] theorem setRatioNum_secsRem : (setRatioNum v s).secsRem = s.secsRem := rfl
@[simp] theorem setRatioNum_ratioNum : (setRatioNum v s).ratioNum = v := rfl
@[simp] theorem setRatioNum_phase : (setRatioNum v s).phase = s.phase := rfl
@[simp] theorem setRatioNum_cur : (setRatioNum v s).cur = s.cur := rfl
@[simp] theorem setRatioNum_tLat : (setRatioNum v s).tLat = s.tLat := rfl
@[simp] theorem setRatioNum_outstanding : (setRatioNum v s).outstanding = s.outstanding := rfl
@[simp] theorem setRatioNum_portReq : (setRatioNum v s).portReq = s.portReq := rfl
@[simp] theorem setRatioNum_nowSec : (setRatioNum v s).nowSec = s.nowSec := rfl
@[simp] theorem setRatioNum_readData : (setRatioNum v s).readData = s.readData := rfl
@[simp] theorem setRatioNum_host : (setRatioNum v s).host = s.host := rfl
@[simp] theorem setRatioNum_inputs : (setRatioNum v s).inputs = s.inputs := rfl
@[simp] theorem setRatioNum_draws : (setRatioNum v s).draws = s.draws := rfl
@[simp] theorem setRatioNum_epoch : (setRatioNum v s).epoch = s.epoch := rfl
end

section
@[simp] theorem hmacRequest_status : (hmacRequest s).status = s.status := rfl
@[simp] theorem hmacRequest_secretCap : (hmacRequest s).secretCap = s.secretCap := rfl
@[simp] theorem hmacRequest_secretLen : (hmacRequest s).secretLen = s.secretLen := rfl
@[simp] theorem hmacRequest_secretBuf : (hmacRequest s).secretBuf = s.secretBuf := rfl
@[simp] theorem hmacRequest_tsOvr : (hmacRequest s).tsOvr = s.tsOvr := rfl
@[simp] theorem hmacRequest_tsUsed : (hmacRequest s).tsUsed = s.tsUsed := rfl
@[simp] theorem hmacRequest_counter : (hmacRequest s).counter = s.counter := rfl
@[simp] theorem hmacRequest_msg : (hmacRequest s).msg = s.msg := rfl
@[simp] theorem hmacRequest_keyLen : (hmacRequest s).keyLen = s.keyLen := rfl
@[simp] theorem hmacRequest_keyBuf : (hmacRequest s).keyBuf = s.keyBuf := rfl
@[simp] theorem hmacRequest_digest : (hmacRequest s).digest = s.digest := rfl
@[simp] theorem hmacRequest_offset : (hmacRequest s).offset = s.offset := rfl
@[simp] theorem hmacRequest_bincode : (hmacRequest s).bincode = s.bincode := rfl
@[simp] theorem hmacRequest_code : (hmacRequest s).code = s.code := rfl
@[simp] theorem hmacRequest_codeStr : (hmacRequest s).codeStr = s.codeStr := rfl
@[simp] theorem hmacRequest_secsRem : (hmacRequest s).secsRem = s.secsRem := rfl
@[simp] theorem hmacRequest_ratioNum : (hmacRequest s).ratioNum = s.ratioNum := rfl
@[simp] theorem hmacRequest_phase : (hmacRequest s).phase = .wait := rfl
@[simp] theorem hmacRequest_cur : (hmacRequest s).cur = s.cur := rfl
@[simp] theorem hmacRequest_tLat : (hmacRequest s).tLat = s.tLat := rfl
@[simp] theorem hmacRequest_outstanding : (hmacRequest s).outstanding = true := rfl
@[simp] theorem hmacRequest_portReq : (hmacRequest s).portReq = some ⟨.sha1, (requestKey s).length, requestKey s, 8, s.msg⟩ := rfl
@[simp] theorem hmacRequest_nowSec : (hmacRequest s).nowSec = s.nowSec := rfl
@[simp] theorem hmacRequest_readData : (hmacRequest s).readData = s.readData := rfl
@[simp] theorem hmacRequest_host : (hmacRequest s).host = s.host := rfl
@[simp] theorem hmacRequest_inputs : (hmacRequest s).inputs = s.inputs := rfl
@[simp] theorem hmacRequest_draws : (hmacRequest s).draws = s.draws := rfl
@[simp] theorem hmacRequest_epoch : (hmacRequest s).epoch = s.epoch := rfl
end

section
@[simp] theorem takeResponse_status : (takeResponse s).status = s.status := rfl
@[simp] theorem takeResponse_secretCap : (takeResponse s).secretCap = s.secretCap := rfl
@[simp] theorem takeResponse_secretLen : (takeResponse s).secretLen = s.secretLen := rfl
@[simp] theorem takeResponse_secretBuf : (takeResponse s).secretBuf = s.secretBuf := rfl
@[simp] theorem takeResponse_tsOvr : (takeResponse s).tsOvr = s.tsOvr := rfl
@[simp] theorem takeResponse_tsUsed : (takeResponse s).tsUsed = s.tsUsed := rfl
@[simp] theorem takeResponse_counter : (takeResponse s).counter = s.counter := rfl
@[simp] theorem takeResponse_msg : (takeResponse s).msg = s.msg := rfl
@[simp] theorem takeResponse_keyLen : (takeResponse s).keyLen = s.keyLen := rfl
@[simp] theorem takeResponse_keyBuf : (takeResponse s).keyBuf = s.keyBuf := rfl
@[simp] theorem takeResponse_digest : (takeResponse s).digest = s.digest := rfl
@[simp] theorem takeResponse_offset : (takeResponse s).offset = s.offset := rfl
@[simp] theorem takeResponse_bincode : (takeResponse s).bincode = s.bincode := rfl
@[simp] theorem takeResponse_code : (takeResponse s).code = s.code := rfl
@[simp] theorem takeResponse_codeStr : (takeResponse s).codeStr = s.codeStr := rfl
@[simp] theorem takeResponse_secsRem : (takeResponse s).secsRem = s.secsRem := rfl
@[simp] theorem takeResponse_ratioNum : (takeResponse s).ratioNum = s.ratioNum := rfl
@[simp] theorem takeResponse_phase : (takeResponse s).phase = s.phase := rfl
@[simp] theorem takeResponse_cur : (takeResponse s).cur = s.cur := rfl
@[simp] theorem takeResponse_tLat : (takeResponse s).tLat = s.tLat := rfl
@[simp] theorem takeResponse_outstanding : (takeResponse s).outstanding = false := rfl
@[simp] theorem takeResponse_portReq : (takeResponse s).portReq = none := rfl
@[simp] theorem takeResponse_nowSec : (takeResponse s).nowSec = s.nowSec := rfl
@[simp] theorem takeResponse_readData : (takeResponse s).readData = s.readData := rfl
@[simp] theorem takeResponse_host : (takeResponse s).host = s.host := rfl
@[simp] theorem takeResponse_inputs : (takeResponse s).inputs = s.inputs := rfl
@[simp] theorem takeResponse_draws : (takeResponse s).draws = s.draws := rfl
@[simp] theorem takeResponse_epoch : (takeResponse s).epoch = s.epoch := rfl
end

section
@[simp] theorem dropWrite_status : (dropWrite s).status = s.status.dropped := rfl
@[simp] theorem dropWrite_secretCap : (dropWrite s).secretCap = s.secretCap := rfl
@[simp] theorem dropWrite_secretLen : (dropWrite s).secretLen = s.secretLen := rfl
@[simp] theorem dropWrite_secretBuf : (dropWrite s).secretBuf = s.secretBuf := rfl
@[simp] theorem dropWrite_tsOvr : (dropWrite s).tsOvr = s.tsOvr := rfl
@[simp] theorem dropWrite_tsUsed : (dropWrite s).tsUsed = s.tsUsed := rfl
@[simp] theorem dropWrite_counter : (dropWrite s).counter = s.counter := rfl
@[simp] theorem dropWrite_msg : (dropWrite s).msg = s.msg := rfl
@[simp] theorem dropWrite_keyLen : (dropWrite s).keyLen = s.keyLen := rfl
@[simp] theorem dropWrite_keyBuf : (dropWrite s).keyBuf = s.keyBuf := rfl
@[simp] theorem dropWrite_digest : (dropWrite s).digest = s.digest := rfl
@[simp] theorem dropWrite_offset : (dropWrite s).offset = s.offset := rfl
@[simp] theorem dropWrite_bincode : (dropWrite s).bincode = s.bincode := rfl
@[simp] theorem dropWrite_code : (dropWrite s).code = s.code := rfl
@[simp] theorem dropWrite_codeStr : (dropWrite s).codeStr = s.codeStr := rfl
@[simp] theorem dropWrite_secsRem : (dropWrite s).secsRem = s.secsRem := rfl
@[simp] theorem dropWrite_ratioNum : (dropWrite s).ratioNum = s.ratioNum := rfl
@[simp] theorem dropWrite_phase : (dropWrite s).phase = s.phase := rfl
@[simp] theorem dropWrite_cur : (dropWrite s).cur = s.cur := rfl
@[simp] theorem dropWrite_tLat : (dropWrite s).tLat = s.tLat := rfl
@[simp] theorem dropWrite_outstanding : (dropWrite s).outstanding = s.outstanding := rfl
@[simp] theorem dropWrite_portReq : (dropWrite s).portReq = s.portReq := rfl
@[simp] theorem dropWrite_nowSec : (dropWrite s).nowSec = s.nowSec := rfl
@[simp] theorem dropWrite_readData : (dropWrite s).readData = s.readData := rfl
@[simp] theorem dropWrite_host : (dropWrite s).host = s.host := rfl
@[simp] theorem dropWrite_inputs : (dropWrite s).inputs = s.inputs := rfl
@[simp] theorem dropWrite_draws : (dropWrite s).draws = s.draws := rfl
@[simp] theorem dropWrite_epoch : (dropWrite s).epoch = s.epoch := rfl
end

section
variable (v : Word)
@[simp] theorem setSecretLen_status : (setSecretLen v s).status = s.status := rfl
@[simp] theorem setSecretLen_secretCap : (setSecretLen v s).secretCap = s.secretCap := rfl
@[simp] theorem setSecretLen_secretLen : (setSecretLen v s).secretLen = v.extractLsb' 0 11 := rfl
@[simp] theorem setSecretLen_secretBuf : (setSecretLen v s).secretBuf = s.secretBuf := rfl
@[simp] theorem setSecretLen_tsOvr : (setSecretLen v s).tsOvr = s.tsOvr := rfl
@[simp] theorem setSecretLen_tsUsed : (setSecretLen v s).tsUsed = s.tsUsed := rfl
@[simp] theorem setSecretLen_counter : (setSecretLen v s).counter = s.counter := rfl
@[simp] theorem setSecretLen_msg : (setSecretLen v s).msg = s.msg := rfl
@[simp] theorem setSecretLen_keyLen : (setSecretLen v s).keyLen = s.keyLen := rfl
@[simp] theorem setSecretLen_keyBuf : (setSecretLen v s).keyBuf = s.keyBuf := rfl
@[simp] theorem setSecretLen_digest : (setSecretLen v s).digest = s.digest := rfl
@[simp] theorem setSecretLen_offset : (setSecretLen v s).offset = s.offset := rfl
@[simp] theorem setSecretLen_bincode : (setSecretLen v s).bincode = s.bincode := rfl
@[simp] theorem setSecretLen_code : (setSecretLen v s).code = s.code := rfl
@[simp] theorem setSecretLen_codeStr : (setSecretLen v s).codeStr = s.codeStr := rfl
@[simp] theorem setSecretLen_secsRem : (setSecretLen v s).secsRem = s.secsRem := rfl
@[simp] theorem setSecretLen_ratioNum : (setSecretLen v s).ratioNum = s.ratioNum := rfl
@[simp] theorem setSecretLen_phase : (setSecretLen v s).phase = s.phase := rfl
@[simp] theorem setSecretLen_cur : (setSecretLen v s).cur = s.cur := rfl
@[simp] theorem setSecretLen_tLat : (setSecretLen v s).tLat = s.tLat := rfl
@[simp] theorem setSecretLen_outstanding : (setSecretLen v s).outstanding = s.outstanding := rfl
@[simp] theorem setSecretLen_portReq : (setSecretLen v s).portReq = s.portReq := rfl
@[simp] theorem setSecretLen_nowSec : (setSecretLen v s).nowSec = s.nowSec := rfl
@[simp] theorem setSecretLen_readData : (setSecretLen v s).readData = s.readData := rfl
@[simp] theorem setSecretLen_host : (setSecretLen v s).host = s.host := rfl
@[simp] theorem setSecretLen_inputs : (setSecretLen v s).inputs = s.inputs := rfl
@[simp] theorem setSecretLen_draws : (setSecretLen v s).draws = s.draws := rfl
@[simp] theorem setSecretLen_epoch : (setSecretLen v s).epoch = s.epoch := rfl
end

section
variable (v : Word)
@[simp] theorem setTsOvrLo_status : (setTsOvrLo v s).status = s.status := rfl
@[simp] theorem setTsOvrLo_secretCap : (setTsOvrLo v s).secretCap = s.secretCap := rfl
@[simp] theorem setTsOvrLo_secretLen : (setTsOvrLo v s).secretLen = s.secretLen := rfl
@[simp] theorem setTsOvrLo_secretBuf : (setTsOvrLo v s).secretBuf = s.secretBuf := rfl
@[simp] theorem setTsOvrLo_tsOvr : (setTsOvrLo v s).tsOvr = hiWord s.tsOvr ++ v := rfl
@[simp] theorem setTsOvrLo_tsUsed : (setTsOvrLo v s).tsUsed = s.tsUsed := rfl
@[simp] theorem setTsOvrLo_counter : (setTsOvrLo v s).counter = s.counter := rfl
@[simp] theorem setTsOvrLo_msg : (setTsOvrLo v s).msg = s.msg := rfl
@[simp] theorem setTsOvrLo_keyLen : (setTsOvrLo v s).keyLen = s.keyLen := rfl
@[simp] theorem setTsOvrLo_keyBuf : (setTsOvrLo v s).keyBuf = s.keyBuf := rfl
@[simp] theorem setTsOvrLo_digest : (setTsOvrLo v s).digest = s.digest := rfl
@[simp] theorem setTsOvrLo_offset : (setTsOvrLo v s).offset = s.offset := rfl
@[simp] theorem setTsOvrLo_bincode : (setTsOvrLo v s).bincode = s.bincode := rfl
@[simp] theorem setTsOvrLo_code : (setTsOvrLo v s).code = s.code := rfl
@[simp] theorem setTsOvrLo_codeStr : (setTsOvrLo v s).codeStr = s.codeStr := rfl
@[simp] theorem setTsOvrLo_secsRem : (setTsOvrLo v s).secsRem = s.secsRem := rfl
@[simp] theorem setTsOvrLo_ratioNum : (setTsOvrLo v s).ratioNum = s.ratioNum := rfl
@[simp] theorem setTsOvrLo_phase : (setTsOvrLo v s).phase = s.phase := rfl
@[simp] theorem setTsOvrLo_cur : (setTsOvrLo v s).cur = s.cur := rfl
@[simp] theorem setTsOvrLo_tLat : (setTsOvrLo v s).tLat = s.tLat := rfl
@[simp] theorem setTsOvrLo_outstanding : (setTsOvrLo v s).outstanding = s.outstanding := rfl
@[simp] theorem setTsOvrLo_portReq : (setTsOvrLo v s).portReq = s.portReq := rfl
@[simp] theorem setTsOvrLo_nowSec : (setTsOvrLo v s).nowSec = s.nowSec := rfl
@[simp] theorem setTsOvrLo_readData : (setTsOvrLo v s).readData = s.readData := rfl
@[simp] theorem setTsOvrLo_host : (setTsOvrLo v s).host = s.host := rfl
@[simp] theorem setTsOvrLo_inputs : (setTsOvrLo v s).inputs = s.inputs := rfl
@[simp] theorem setTsOvrLo_draws : (setTsOvrLo v s).draws = s.draws := rfl
@[simp] theorem setTsOvrLo_epoch : (setTsOvrLo v s).epoch = s.epoch := rfl
end

section
variable (v : Word)
@[simp] theorem setTsOvrHi_status : (setTsOvrHi v s).status = s.status := rfl
@[simp] theorem setTsOvrHi_secretCap : (setTsOvrHi v s).secretCap = s.secretCap := rfl
@[simp] theorem setTsOvrHi_secretLen : (setTsOvrHi v s).secretLen = s.secretLen := rfl
@[simp] theorem setTsOvrHi_secretBuf : (setTsOvrHi v s).secretBuf = s.secretBuf := rfl
@[simp] theorem setTsOvrHi_tsOvr : (setTsOvrHi v s).tsOvr = v ++ loWord s.tsOvr := rfl
@[simp] theorem setTsOvrHi_tsUsed : (setTsOvrHi v s).tsUsed = s.tsUsed := rfl
@[simp] theorem setTsOvrHi_counter : (setTsOvrHi v s).counter = s.counter := rfl
@[simp] theorem setTsOvrHi_msg : (setTsOvrHi v s).msg = s.msg := rfl
@[simp] theorem setTsOvrHi_keyLen : (setTsOvrHi v s).keyLen = s.keyLen := rfl
@[simp] theorem setTsOvrHi_keyBuf : (setTsOvrHi v s).keyBuf = s.keyBuf := rfl
@[simp] theorem setTsOvrHi_digest : (setTsOvrHi v s).digest = s.digest := rfl
@[simp] theorem setTsOvrHi_offset : (setTsOvrHi v s).offset = s.offset := rfl
@[simp] theorem setTsOvrHi_bincode : (setTsOvrHi v s).bincode = s.bincode := rfl
@[simp] theorem setTsOvrHi_code : (setTsOvrHi v s).code = s.code := rfl
@[simp] theorem setTsOvrHi_codeStr : (setTsOvrHi v s).codeStr = s.codeStr := rfl
@[simp] theorem setTsOvrHi_secsRem : (setTsOvrHi v s).secsRem = s.secsRem := rfl
@[simp] theorem setTsOvrHi_ratioNum : (setTsOvrHi v s).ratioNum = s.ratioNum := rfl
@[simp] theorem setTsOvrHi_phase : (setTsOvrHi v s).phase = s.phase := rfl
@[simp] theorem setTsOvrHi_cur : (setTsOvrHi v s).cur = s.cur := rfl
@[simp] theorem setTsOvrHi_tLat : (setTsOvrHi v s).tLat = s.tLat := rfl
@[simp] theorem setTsOvrHi_outstanding : (setTsOvrHi v s).outstanding = s.outstanding := rfl
@[simp] theorem setTsOvrHi_portReq : (setTsOvrHi v s).portReq = s.portReq := rfl
@[simp] theorem setTsOvrHi_nowSec : (setTsOvrHi v s).nowSec = s.nowSec := rfl
@[simp] theorem setTsOvrHi_readData : (setTsOvrHi v s).readData = s.readData := rfl
@[simp] theorem setTsOvrHi_host : (setTsOvrHi v s).host = s.host := rfl
@[simp] theorem setTsOvrHi_inputs : (setTsOvrHi v s).inputs = s.inputs := rfl
@[simp] theorem setTsOvrHi_draws : (setTsOvrHi v s).draws = s.draws := rfl
@[simp] theorem setTsOvrHi_epoch : (setTsOvrHi v s).epoch = s.epoch := rfl
end

section
variable (w : Nat) (v : Word)
@[simp] theorem setSecretWord_status : (setSecretWord w v s).status = s.status := rfl
@[simp] theorem setSecretWord_secretCap : (setSecretWord w v s).secretCap = s.secretCap := rfl
@[simp] theorem setSecretWord_secretLen : (setSecretWord w v s).secretLen = s.secretLen := rfl
@[simp] theorem setSecretWord_secretBuf : (setSecretWord w v s).secretBuf = Memory.insertAll (4 * w) (lanes v) s.secretBuf := rfl
@[simp] theorem setSecretWord_tsOvr : (setSecretWord w v s).tsOvr = s.tsOvr := rfl
@[simp] theorem setSecretWord_tsUsed : (setSecretWord w v s).tsUsed = s.tsUsed := rfl
@[simp] theorem setSecretWord_counter : (setSecretWord w v s).counter = s.counter := rfl
@[simp] theorem setSecretWord_msg : (setSecretWord w v s).msg = s.msg := rfl
@[simp] theorem setSecretWord_keyLen : (setSecretWord w v s).keyLen = s.keyLen := rfl
@[simp] theorem setSecretWord_keyBuf : (setSecretWord w v s).keyBuf = s.keyBuf := rfl
@[simp] theorem setSecretWord_digest : (setSecretWord w v s).digest = s.digest := rfl
@[simp] theorem setSecretWord_offset : (setSecretWord w v s).offset = s.offset := rfl
@[simp] theorem setSecretWord_bincode : (setSecretWord w v s).bincode = s.bincode := rfl
@[simp] theorem setSecretWord_code : (setSecretWord w v s).code = s.code := rfl
@[simp] theorem setSecretWord_codeStr : (setSecretWord w v s).codeStr = s.codeStr := rfl
@[simp] theorem setSecretWord_secsRem : (setSecretWord w v s).secsRem = s.secsRem := rfl
@[simp] theorem setSecretWord_ratioNum : (setSecretWord w v s).ratioNum = s.ratioNum := rfl
@[simp] theorem setSecretWord_phase : (setSecretWord w v s).phase = s.phase := rfl
@[simp] theorem setSecretWord_cur : (setSecretWord w v s).cur = s.cur := rfl
@[simp] theorem setSecretWord_tLat : (setSecretWord w v s).tLat = s.tLat := rfl
@[simp] theorem setSecretWord_outstanding : (setSecretWord w v s).outstanding = s.outstanding := rfl
@[simp] theorem setSecretWord_portReq : (setSecretWord w v s).portReq = s.portReq := rfl
@[simp] theorem setSecretWord_nowSec : (setSecretWord w v s).nowSec = s.nowSec := rfl
@[simp] theorem setSecretWord_readData : (setSecretWord w v s).readData = s.readData := rfl
@[simp] theorem setSecretWord_host : (setSecretWord w v s).host = s.host := rfl
@[simp] theorem setSecretWord_inputs : (setSecretWord w v s).inputs = s.inputs := rfl
@[simp] theorem setSecretWord_draws : (setSecretWord w v s).draws = s.draws := rfl
@[simp] theorem setSecretWord_epoch : (setSecretWord w v s).epoch = s.epoch := rfl
end

section
variable (off : Offset)
@[simp] theorem hostRead_status : (hostRead off s).status = s.status := rfl
@[simp] theorem hostRead_secretCap : (hostRead off s).secretCap = s.secretCap := rfl
@[simp] theorem hostRead_secretLen : (hostRead off s).secretLen = s.secretLen := rfl
@[simp] theorem hostRead_secretBuf : (hostRead off s).secretBuf = s.secretBuf := rfl
@[simp] theorem hostRead_tsOvr : (hostRead off s).tsOvr = s.tsOvr := rfl
@[simp] theorem hostRead_tsUsed : (hostRead off s).tsUsed = s.tsUsed := rfl
@[simp] theorem hostRead_counter : (hostRead off s).counter = s.counter := rfl
@[simp] theorem hostRead_msg : (hostRead off s).msg = s.msg := rfl
@[simp] theorem hostRead_keyLen : (hostRead off s).keyLen = s.keyLen := rfl
@[simp] theorem hostRead_keyBuf : (hostRead off s).keyBuf = s.keyBuf := rfl
@[simp] theorem hostRead_digest : (hostRead off s).digest = s.digest := rfl
@[simp] theorem hostRead_offset : (hostRead off s).offset = s.offset := rfl
@[simp] theorem hostRead_bincode : (hostRead off s).bincode = s.bincode := rfl
@[simp] theorem hostRead_code : (hostRead off s).code = s.code := rfl
@[simp] theorem hostRead_codeStr : (hostRead off s).codeStr = s.codeStr := rfl
@[simp] theorem hostRead_secsRem : (hostRead off s).secsRem = s.secsRem := rfl
@[simp] theorem hostRead_ratioNum : (hostRead off s).ratioNum = s.ratioNum := rfl
@[simp] theorem hostRead_phase : (hostRead off s).phase = s.phase := rfl
@[simp] theorem hostRead_cur : (hostRead off s).cur = s.cur := rfl
@[simp] theorem hostRead_tLat : (hostRead off s).tLat = s.tLat := rfl
@[simp] theorem hostRead_outstanding : (hostRead off s).outstanding = s.outstanding := rfl
@[simp] theorem hostRead_portReq : (hostRead off s).portReq = s.portReq := rfl
@[simp] theorem hostRead_nowSec : (hostRead off s).nowSec = s.nowSec := rfl
@[simp] theorem hostRead_readData : (hostRead off s).readData = some (memRead s off) := rfl
@[simp] theorem hostRead_host : (hostRead off s).host = s.host := rfl
@[simp] theorem hostRead_inputs : (hostRead off s).inputs = s.inputs := rfl
@[simp] theorem hostRead_draws : (hostRead off s).draws = if readsFree s (regOf off) then s.draws + 1 else s.draws := rfl
@[simp] theorem hostRead_epoch : (hostRead off s).epoch = s.epoch := rfl
end

section
@[simp] theorem applyReset_status : (applyReset s).status = (State.resetWith s.secretCap).status := rfl
@[simp] theorem applyReset_secretCap : (applyReset s).secretCap = s.secretCap := rfl
@[simp] theorem applyReset_secretLen : (applyReset s).secretLen = (State.resetWith s.secretCap).secretLen := rfl
@[simp] theorem applyReset_secretBuf : (applyReset s).secretBuf = (State.resetWith s.secretCap).secretBuf := rfl
@[simp] theorem applyReset_tsOvr : (applyReset s).tsOvr = (State.resetWith s.secretCap).tsOvr := rfl
@[simp] theorem applyReset_tsUsed : (applyReset s).tsUsed = (State.resetWith s.secretCap).tsUsed := rfl
@[simp] theorem applyReset_counter : (applyReset s).counter = (State.resetWith s.secretCap).counter := rfl
@[simp] theorem applyReset_msg : (applyReset s).msg = (State.resetWith s.secretCap).msg := rfl
@[simp] theorem applyReset_keyLen : (applyReset s).keyLen = (State.resetWith s.secretCap).keyLen := rfl
@[simp] theorem applyReset_keyBuf : (applyReset s).keyBuf = (State.resetWith s.secretCap).keyBuf := rfl
@[simp] theorem applyReset_digest : (applyReset s).digest = (State.resetWith s.secretCap).digest := rfl
@[simp] theorem applyReset_offset : (applyReset s).offset = (State.resetWith s.secretCap).offset := rfl
@[simp] theorem applyReset_bincode : (applyReset s).bincode = (State.resetWith s.secretCap).bincode := rfl
@[simp] theorem applyReset_code : (applyReset s).code = (State.resetWith s.secretCap).code := rfl
@[simp] theorem applyReset_codeStr : (applyReset s).codeStr = (State.resetWith s.secretCap).codeStr := rfl
@[simp] theorem applyReset_secsRem : (applyReset s).secsRem = (State.resetWith s.secretCap).secsRem := rfl
@[simp] theorem applyReset_ratioNum : (applyReset s).ratioNum = (State.resetWith s.secretCap).ratioNum := rfl
@[simp] theorem applyReset_phase : (applyReset s).phase = (State.resetWith s.secretCap).phase := rfl
@[simp] theorem applyReset_cur : (applyReset s).cur = (State.resetWith s.secretCap).cur := rfl
@[simp] theorem applyReset_tLat : (applyReset s).tLat = (State.resetWith s.secretCap).tLat := rfl
@[simp] theorem applyReset_outstanding : (applyReset s).outstanding = (State.resetWith s.secretCap).outstanding := rfl
@[simp] theorem applyReset_portReq : (applyReset s).portReq = (State.resetWith s.secretCap).portReq := rfl
@[simp] theorem applyReset_nowSec : (applyReset s).nowSec = s.nowSec := rfl
@[simp] theorem applyReset_readData : (applyReset s).readData = s.readData := rfl
@[simp] theorem applyReset_host : (applyReset s).host = s.host := rfl
@[simp] theorem applyReset_inputs : (applyReset s).inputs = s.inputs := rfl
@[simp] theorem applyReset_draws : (applyReset s).draws = s.draws := rfl
@[simp] theorem applyReset_epoch : (applyReset s).epoch = s.epoch + 1 := rfl
end

@[simp] theorem raise_eq (e : Err) : raise e s = complete e s := rfl

end Updates

/-! ### The fields of STATUS under each change of it -/

section Flags
variable (st : Status)

@[simp] theorem Status.offered_busy (op : BitVec 8) : (st.offered op).busy = st.busy := rfl
@[simp] theorem Status.offered_done (op : BitVec 8) : (st.offered op).done = false := rfl
@[simp] theorem Status.offered_err (op : BitVec 8) : (st.offered op).err = 0 := rfl
@[simp] theorem Status.offered_invfmt (op : BitVec 8) : (st.offered op).invfmt = false := rfl
@[simp] theorem Status.offered_ovr (op : BitVec 8) : (st.offered op).ovr = false := rfl
@[simp] theorem Status.offered_lastop (op : BitVec 8) : (st.offered op).lastop = op := rfl

@[simp] theorem Status.started_busy : (st.started).busy = true := rfl
@[simp] theorem Status.started_done : (st.started).done = st.done := rfl
@[simp] theorem Status.started_err : (st.started).err = st.err := rfl
@[simp] theorem Status.started_invfmt : (st.started).invfmt = st.invfmt := rfl
@[simp] theorem Status.started_ovr : (st.started).ovr = st.ovr := rfl
@[simp] theorem Status.started_lastop : (st.started).lastop = st.lastop := rfl

@[simp] theorem Status.completed_busy (e : Err) : (st.completed e).busy = false := rfl
@[simp] theorem Status.completed_done (e : Err) : (st.completed e).done = true := rfl
@[simp] theorem Status.completed_err (e : Err) : (st.completed e).err = errCode e := rfl
@[simp] theorem Status.completed_invfmt (e : Err) : (st.completed e).invfmt = st.invfmt := rfl
@[simp] theorem Status.completed_ovr (e : Err) : (st.completed e).ovr = st.ovr := rfl
@[simp] theorem Status.completed_lastop (e : Err) : (st.completed e).lastop = st.lastop := rfl

@[simp] theorem Status.dropped_busy : (st.dropped).busy = st.busy := rfl
@[simp] theorem Status.dropped_done : (st.dropped).done = st.done := rfl
@[simp] theorem Status.dropped_err : (st.dropped).err = st.err := rfl
@[simp] theorem Status.dropped_invfmt : (st.dropped).invfmt = st.invfmt := rfl
@[simp] theorem Status.dropped_ovr : (st.dropped).ovr = true := rfl
@[simp] theorem Status.dropped_lastop : (st.dropped).lastop = st.lastop := rfl

@[simp] theorem Status.noteFormat_busy (n k : Nat) : (st.noteFormat n k).busy = st.busy := rfl
@[simp] theorem Status.noteFormat_done (n k : Nat) : (st.noteFormat n k).done = st.done := rfl
@[simp] theorem Status.noteFormat_err (n k : Nat) : (st.noteFormat n k).err = st.err := rfl
@[simp] theorem Status.noteFormat_invfmt (n k : Nat) : (st.noteFormat n k).invfmt = (st.invfmt || (decide (0 < n) && k == 0)) := rfl
@[simp] theorem Status.noteFormat_ovr (n k : Nat) : (st.noteFormat n k).ovr = st.ovr := rfl
@[simp] theorem Status.noteFormat_lastop (n k : Nat) : (st.noteFormat n k).lastop = st.lastop := rfl

end Flags

end Sys2Proof.Machine
end

