-- ==== Sys2Proof/Laws/Exec.lean ====
section
/-! SUPPORT. One spec lemma per shared operation: Accept, a bus write, a response, the core's step, a move and a step,
each saying everything it can answer. Later proofs cite these and unfold none of the operations. -/

namespace Sys2Proof.Machine

open Host (Outcome)

/-! ### Accept -/

theorem accept_cmd {w : Word} {i : Instr} (h : decodeWord w = .cmd i) (s : State) :
    accept w s = acceptInstr i (offer w s) := by
  simp only [accept, h]

theorem accept_illegal {w : Word} {r : Reject} (h : decodeWord w = .illegal r) (s : State) :
    accept w s = complete .illegalCmd (offer w s) := by
  simp only [accept, h, raise_eq]

theorem acceptInstr_timed {i : Instr} (h : usesTime i = true) (s : State) :
    acceptInstr i s = enterExec i (latchTime i.fields.tsel s) := by
  simp only [acceptInstr, h, if_true]

theorem acceptInstr_untimed {i : Instr} (h : usesTime i = false) (s : State) : acceptInstr i s = enterExec i s := by
  simp [acceptInstr, h]

/-! ### A host write -/

theorem writeInput_idle (f : State → State) {s : State} (h : s.phase = .idle) : writeInput f s = f s := if_pos h

theorem writeInput_busy (f : State → State) {s : State} (h : s.phase ≠ .idle) : writeInput f s = dropWrite s := if_neg h

/-- Everything a host write can do: nothing, be dropped, offer a command, or write one input register. -/
theorem memWrite_cases (off : Offset) (v : Word) (s : State) :
    memWrite off v s = s ∨
    (s.phase ≠ .idle ∧ memWrite off v s = dropWrite s) ∨
    (s.phase = .idle ∧
      (memWrite off v s = accept v s ∨ memWrite off v s = setSecretLen v s ∨ memWrite off v s = setTsOvrLo v s ∨
        memWrite off v s = setTsOvrHi v s ∨
        ∃ w, secretMapped s.secretCap w = true ∧ memWrite off v s = setSecretWord w v s)) := by
  have wi : ∀ f : State → State, (s.phase = .idle ∧ writeInput f s = f s) ∨
      (s.phase ≠ .idle ∧ writeInput f s = dropWrite s) := fun f =>
    (em (s.phase = .idle)).imp (fun h => ⟨h, writeInput_idle f h⟩) (fun h => ⟨h, writeInput_busy f h⟩)
  unfold memWrite
  cases regOf off with
  | cmd => exact (wi _).symm.elim (fun h => .inr (.inl h)) fun h => .inr (.inr ⟨h.1, .inl h.2⟩)
  | secretLen => exact (wi _).symm.elim (fun h => .inr (.inl h)) fun h => .inr (.inr ⟨h.1, .inr (.inl h.2)⟩)
  | tsOvrLo => exact (wi _).symm.elim (fun h => .inr (.inl h)) fun h => .inr (.inr ⟨h.1, .inr (.inr (.inl h.2))⟩)
  | tsOvrHi =>
    exact (wi _).symm.elim (fun h => .inr (.inl h)) fun h => .inr (.inr ⟨h.1, .inr (.inr (.inr (.inl h.2)))⟩)
  | secretWin w =>
    by_cases hm : secretMapped s.secretCap w = true
    · simp only [hm, if_true]
      exact (wi _).symm.elim (fun h => .inr (.inl h))
        fun h => .inr (.inr ⟨h.1, .inr (.inr (.inr (.inr ⟨w, hm, h.2⟩)))⟩)
    · simp [hm]
  | _ => exact .inl rfl

/-! ### The host's turn -/

theorem hostTurn_nil {s : State} (h : s.host = []) : hostTurn s = s := by
  simp [hostTurn, h]

theorem hostTurn_read {s : State} {off : Offset} {ops : List HostStep} (h : s.host = .read off :: ops) :
    hostTurn s = hostRead off { s with host := ops } := by
  simp [hostTurn, h]

theorem hostTurn_write {s : State} {off : Offset} {v : Word} {ops : List HostStep} (h : s.host = .write off v :: ops) :
    hostTurn s = memWrite off v { s with host := ops } := by
  simp [hostTurn, h]

theorem hostTurn_poll {s : State} {ops : List HostStep} (h : s.host = .poll :: ops) :
    hostTurn s = hostRead 0x004 { s with host := if (memRead s 0x004).getLsbD 0 then .poll :: ops else ops } := by
  simp only [hostTurn, h]

/-- POLL while BUSY reads 1: the host has read STATUS and is in the loop still. -/
theorem hostTurn_poll_busy {s : State} {ops : List HostStep} (h : s.host = .poll :: ops)
    (hb : (memRead s 0x004).getLsbD 0 = true) : hostTurn s = hostRead 0x004 s := by
  rw [hostTurn_poll h, if_pos hb, ← h]

/-- POLL once BUSY reads 0: the host has read STATUS and goes on with its program. -/
theorem hostTurn_poll_ends {s : State} {ops : List HostStep} (h : s.host = .poll :: ops)
    (hb : (memRead s 0x004).getLsbD 0 = false) : hostTurn s = hostRead 0x004 { s with host := ops } := by
  rw [hostTurn_poll h, hb, if_neg Bool.false_ne_true]

/-- Everything a turn of the host can do: nothing at the end of its program, one read that leaves a rest of the program
(in a POLL the whole of it while BUSY reads 1), or one write. -/
theorem hostTurn_cases (s : State) :
    (s.host = [] ∧ hostTurn s = s) ∨
    (∃ off ops, hostTurn s = hostRead off { s with host := ops } ∧
      (s.host = .read off :: ops ∨
       (off = 0x004 ∧ s.host = .poll :: ops ∧ (memRead s 0x004).getLsbD 0 = false) ∨
       (off = 0x004 ∧ s.host = ops ∧ (∃ rest, ops = .poll :: rest) ∧ (memRead s 0x004).getLsbD 0 = true))) ∨
    (∃ off v ops, s.host = .write off v :: ops ∧ hostTurn s = memWrite off v { s with host := ops }) := by
  cases h : s.host with
  | nil => exact .inl ⟨rfl, hostTurn_nil h⟩
  | cons op ops =>
    cases op with
    | read off => exact .inr (.inl ⟨off, ops, hostTurn_read h, .inl rfl⟩)
    | write off v => exact .inr (.inr ⟨off, v, ops, rfl, hostTurn_write h⟩)
    | poll =>
      cases hb : (memRead s 0x004).getLsbD 0 with
      | false => exact .inr (.inl ⟨_, ops, hostTurn_poll_ends h hb, .inr (.inl ⟨rfl, rfl, rfl⟩)⟩)
      | true =>
        exact .inr (.inl ⟨_, .poll :: ops, by rw [hostTurn_poll h, if_pos hb], .inr (.inr ⟨rfl, rfl, ⟨ops, rfl⟩, rfl⟩)⟩)

/-! ### The EXEC step of each command -/

@[simp] theorem exec_counter (s : State) : exec .counter s = .next (complete .none (countTime s)) := rfl
@[simp] theorem exec_counterTs (s : State) : exec .counterTs s = .next (complete .none (countTime s)) := rfl
@[simp] theorem exec_pack (s : State) : exec .pack s = .next (complete .none (packCounter s)) := rfl
@[simp] theorem exec_hmac (s : State) : exec .hmac s = .next (hmacRequest s) := rfl
@[simp] theorem exec_trunc (s : State) : exec .trunc s = .next (complete .none (truncateDigest s)) := rfl
@[simp] theorem exec_generate (s : State) : exec .generate s = .next (generateStages s) := rfl
@[simp] theorem exec_generateTs (s : State) : exec .generateTs s = .next (generateStages s) := rfl
@[simp] theorem exec_secrem (s : State) : exec .secrem s = .next (complete .none (viewSeconds s)) := rfl
@[simp] theorem exec_secremTs (s : State) : exec .secremTs s = .next (complete .none (viewSeconds s)) := rfl
@[simp] theorem exec_ratio (s : State) : exec .ratio s = .next (complete .none (viewRatio s)) := rfl
@[simp] theorem exec_ratioTs (s : State) : exec .ratioTs s = .next (complete .none (viewRatio s)) := rfl

theorem exec_decode_fits {s : State} (h : secretTooLong s = false) :
    exec .decode s = .next (complete .none (decodeSecret s)) := by
  simp [exec, execDecode, h]

theorem exec_decode_tooLong {s : State} (h : secretTooLong s = true) :
    exec .decode s = .next (complete .secretTooLong s) := by
  simp [exec, execDecode, h]

theorem generateStages_fits {s : State} (h : secretTooLong s = false) :
    generateStages s = hmacRequest (packCounter (countTime (decodeSecret s))) := by
  simp [generateStages, h]

theorem generateStages_tooLong {s : State} (h : secretTooLong s = true) :
    generateStages s = complete .secretTooLong (setCodeStr sentinel s) := by
  simp [generateStages, h]

/-- Everything an EXEC step can answer: a completion of the command's own stage, a request, or the error of a secret
that is too long. It never stops. -/
theorem exec_cases (i : Instr) (s : State) :
    (∃ t, exec i s = .next (complete .none t) ∧
      ((i = .decode ∧ secretTooLong s = false ∧ t = decodeSecret s) ∨
       ((i = .counter ∨ i = .counterTs) ∧ t = countTime s) ∨
       (i = .pack ∧ t = packCounter s) ∨
       (i = .trunc ∧ t = truncateDigest s) ∨
       ((i = .secrem ∨ i = .secremTs) ∧ t = viewSeconds s) ∨
       ((i = .ratio ∨ i = .ratioTs) ∧ t = viewRatio s))) ∨
    (i = .hmac ∧ exec i s = .next (hmacRequest s)) ∨
    ((i = .generate ∨ i = .generateTs) ∧ secretTooLong s = false ∧
      exec i s = .next (hmacRequest (packCounter (countTime (decodeSecret s))))) ∨
    (secretTooLong s = true ∧ i = .decode ∧ exec i s = .next (complete .secretTooLong s)) ∨
    (secretTooLong s = true ∧ (i = .generate ∨ i = .generateTs) ∧
      exec i s = .next (complete .secretTooLong (setCodeStr sentinel s))) := by
  cases hl : secretTooLong s <;> cases i <;>
    simp [exec_decode_fits, exec_decode_tooLong, generateStages_fits, generateStages_tooLong, hl]

/-! ### The provider's response -/

/-- Everything a response can do: nothing while no request is outstanding, else complete the waiting command. -/
theorem respond_cases (a : Answer) (s : State) :
    (s.outstanding = false ∧ respond a s = .next s) ∨
    (s.outstanding = true ∧ s.cur = some .hmac ∧ respond a s = .next (finishHmac a (takeResponse s))) ∨
    (s.outstanding = true ∧ (s.cur = some .generate ∨ s.cur = some .generateTs) ∧
      respond a s = .next (finishGenerate a (takeResponse s))) ∨
    (s.outstanding = true ∧ (∀ i, s.cur = some i → i ≠ .hmac ∧ i ≠ .generate ∧ i ≠ .generateTs) ∧
      respond a s = .fault .noCommandAwaitsResponse) := by
  cases ho : s.outstanding
  · exact .inl ⟨rfl, by simp [respond, ho]⟩
  · right
    cases hc : s.cur with
    | none => right; right; simp [respond, finish, ho, hc]
    | some i => cases i <;> simp [respond, finish, ho, hc]

@[simp] theorem finishHmac_ok (d : Digest) (s : State) :
    finishHmac (.ok d) s = complete .none (zeroize (setDigest d s)) := rfl
@[simp] theorem finishHmac_unavailable (s : State) :
    finishHmac .unavailable s = complete .primitiveUnavailable (zeroize s) := rfl
@[simp] theorem finishGenerate_ok (d : Digest) (s : State) :
    finishGenerate (.ok d) s = complete .none (zeroize (truncateDigest (setDigest d s))) := rfl
@[simp] theorem finishGenerate_unavailable (s : State) :
    finishGenerate .unavailable s = complete .primitiveUnavailable (zeroize (setCodeStr sentinel s)) := rfl

/-! ### The core's step and a step of the machine -/

theorem coreStep_notExec {s : State} (h : s.phase ≠ .exec) : coreStep s = .next s := by
  unfold coreStep
  split <;> simp_all

theorem coreStep_exec {s : State} {i : Instr} (hp : s.phase = .exec) (hc : s.cur = some i) : coreStep s = exec i s := by
  simp [coreStep, hp, hc]

theorem coreStep_noCommand {s : State} (hp : s.phase = .exec) (hc : s.cur = none) :
    coreStep s = .fault .noCurrentCommand := by
  simp [coreStep, hp, hc]

theorem step_core {s : State} (h : s.inputs = []) : step s = coreStep s := by
  simp [step, stepMove, h]

theorem step_move {s : State} {m : Move} {rest : List Move} (h : s.inputs = m :: rest) :
    step s = act m { s with inputs := rest } := by
  simp [step, stepMove, h]

theorem act_respondHmac {s : State} {r : HmacReq} (h : s.portReq = some r) :
    act .respondHmac s = respond (.ok (Config.hmacFn r.key r.msg)) s := by
  simp [act, conformingAnswer, h]

theorem act_respondHmac_none {s : State} (h : s.portReq = none) : act .respondHmac s = .next s := by
  simp [act, conformingAnswer, h]

end Sys2Proof.Machine
end

