-- ==== Sys2Proof/Laws/PerInstr.lean ====
section
/-! SUPPORT. What is said of every instruction as syntax, one lemma per constructor. -/

namespace Sys2Proof.Laws.LegalEncoding

/-- The instruction's fields pass the three checks of R63, and its word has those fields. -/
def Statement (i : Instr) : Prop := i.wf = true ∧ Cmd32.ofWord (encode i) = i.fields

theorem decode : Statement .decode := ⟨by decide, by decide⟩
theorem counter : Statement .counter := ⟨by decide, by decide⟩
theorem counterTs : Statement .counterTs := ⟨by decide, by decide⟩
theorem pack : Statement .pack := ⟨by decide, by decide⟩
theorem hmac : Statement .hmac := ⟨by decide, by decide⟩
theorem trunc : Statement .trunc := ⟨by decide, by decide⟩
theorem generate : Statement .generate := ⟨by decide, by decide⟩
theorem generateTs : Statement .generateTs := ⟨by decide, by decide⟩
theorem secrem : Statement .secrem := ⟨by decide, by decide⟩
theorem secremTs : Statement .secremTs := ⟨by decide, by decide⟩
theorem ratio : Statement .ratio := ⟨by decide, by decide⟩
theorem ratioTs : Statement .ratioTs := ⟨by decide, by decide⟩

end Sys2Proof.Laws.LegalEncoding
end

