-- ==== Sys2Proof/Tests/Slice0.lean ====
section
/-! SUPPORT. Tests. Expected values are those of 95_test_vectors.md, or written out by hand from the rule named. Each
test is one step on a small state. Then, for every statement with hypotheses, a named state that meets them. -/

namespace Sys2Proof.Tests

open Sys2Proof Sys2Proof.Machine Sys2Proof.Spec

/-! ### Well-formedness refuses an ill-formed command, by each check of R63 -/

theorem test_reserved_bits_refused :
    (⟨0x06, false, 1⟩ : Cmd32).reservedZero = false ∧ (⟨0x06, false, 1⟩ : Cmd32).legal = false := by decide

theorem test_opcode_zero_refused :
    (⟨0x00, false, 0⟩ : Cmd32).opcodeAssigned = false ∧ (⟨0x00, false, 0⟩ : Cmd32).legal = false := by decide

theorem test_opcode_nine_refused :
    (⟨0x09, false, 0⟩ : Cmd32).opcodeAssigned = false ∧ (⟨0x09, false, 0⟩ : Cmd32).legal = false := by decide

theorem test_tsel_on_decode_refused :
    (⟨0x01, true, 0⟩ : Cmd32).tselAdmitted = false ∧ (⟨0x01, true, 0⟩ : Cmd32).legal = false := by decide

theorem test_tsel_on_ratio_admitted : (⟨0x08, true, 0⟩ : Cmd32).legal = true := by decide

/-! ### Decoding: the words of R65, bit by bit -/

theorem test_decode_word : decodeWord 0b00000000000000000000000000000001#32 = .cmd .decode := by decide
theorem test_counter_word : decodeWord 0b00000000000000000000000000000010#32 = .cmd .counter := by decide
theorem test_counterTs_word : decodeWord 0b00000000000000000000000100000010#32 = .cmd .counterTs := by decide
theorem test_pack_word : decodeWord 0b00000000000000000000000000000011#32 = .cmd .pack := by decide
theorem test_hmac_word : decodeWord 0b00000000000000000000000000000100#32 = .cmd .hmac := by decide
theorem test_trunc_word : decodeWord 0b00000000000000000000000000000101#32 = .cmd .trunc := by decide
theorem test_generate_word : decodeWord 0b00000000000000000000000000000110#32 = .cmd .generate := by decide
theorem test_generateTs_word : decodeWord 0b00000000000000000000000100000110#32 = .cmd .generateTs := by decide
theorem test_secrem_word : decodeWord 0b00000000000000000000000000000111#32 = .cmd .secrem := by decide
theorem test_secremTs_word : decodeWord 0b00000000000000000000000100000111#32 = .cmd .secremTs := by decide
theorem test_ratio_word : decodeWord 0b00000000000000000000000000001000#32 = .cmd .ratio := by decide
theorem test_ratioTs_word : decodeWord 0b00000000000000000000000100001000#32 = .cmd .ratioTs := by decide

/-- Vectors E1, E4, E5 and E7. -/
theorem test_illegal_words :
    decodeWord 0x00000000 = .illegal .unassignedOpcode ∧ decodeWord 0x00000101 = .illegal .tselNotAdmitted ∧
    decodeWord 0x00000105 = .illegal .tselNotAdmitted ∧ decodeWord 0x00000206 = .illegal .reservedBits := by decide

theorem test_decodeTableWord : decodeTableWord 32 0x106 = some .generateTs ∧ decodeTableWord 32 0x206 = none := by decide

/-! ### Small states -/

/-- A core with SECRET_CAP = 32, its timestamp inputs at 59. -/
def base : State := { State.resetWith 32 with tsOvr := 59, nowSec := some 59 }

/-- The secret `text` loaded. -/
def withText (text : Bytes) (s : State) : State :=
  { s with secretBuf := Memory.insertAll 0 text [], secretLen := BitVec.ofNat 11 text.length }

/-- The state an outcome goes on in. -/
def after (o : Host.Outcome State Fault Refusal) : State :=
  match o with
  | .next s    => s
  | .fault _   => State.reset
  | .refused _ => State.reset

/-- The command accepted. -/
def running (i : Instr) (s : State) : State := accept (encode i) s

/-- The command accepted and its EXEC step taken. -/
def ran (i : Instr) (s : State) : State := after (exec i (running i s))

/-- The provider has answered. -/
def answered (a : Answer) (s : State) : State := after (act (.respond a) s)

/-- The word STATUS reads as. -/
def statusOf (s : State) : Word := memRead s 0x004

/-- "MZXW6===" (vector B1). -/
def mzxw6 : Bytes := [0x4D, 0x5A, 0x58, 0x57, 0x36, 0x3D, 0x3D, 0x3D]

/-- "JBSWY3DPEHPK3PXP" (vector B23). -/
def jbsw : Bytes :=
  [0x4A, 0x42, 0x53, 0x57, 0x59, 0x33, 0x44, 0x50, 0x45, 0x48, 0x50, 0x4B, 0x33, 0x50, 0x58, 0x50]

/-- The provider's answer of vectors G8 and T10. -/
def digestG8 : Digest :=
  #v[0x85, 0x3f, 0x79, 0xb6, 0x65, 0x0a, 0x9e, 0x3c, 0x5a, 0x81, 0xf1, 0x79, 0xa2, 0x09, 0x25, 0x3b, 0xcb, 0xbe,
     0x74, 0x02]

/-! ### DECODE: vectors B1, B5 and B26 -/

theorem test_decode_mzxw6 :
    (ran .decode (withText mzxw6 base)).keyBuf.take 4 = [0x66, 0x6F, 0x6F, 0x00] ∧
    (ran .decode (withText mzxw6 base)).keyLen = 3 ∧ statusOf (ran .decode (withText mzxw6 base)) = 0x00000102 := by
  decide

theorem test_decode_status :
    statusOf (ran .decode (withText [0x41] base)) = 0x00000122 ∧
    statusOf (ran .decode { base with secretLen := 33 }) = 0x0000010E := by decide

/-! ### COUNTER and COUNTER.TS: vectors K6, K9 and K16 -/

theorem test_counter_now : (ran .counter base).counter = 1 ∧ (ran .counter base).tsUsed = 59 ∧
    statusOf (ran .counter base) = 0x00000202 := by decide

theorem test_counterTs_k9 : (ran .counterTs { base with tsOvr := 0x423A35C5 }).counter = 37037036 := by decide

theorem test_counterTs_k16 :
    (ran .counterTs { base with tsOvr := 0xFFFFFFFFFFFFFFFF }).counter = 0x0888888888888888 := by decide

/-! ### PACK: vectors M3 and M9 -/

theorem test_pack_m3 : memRead (ran .pack { base with counter := 37037036 }) 0x02C = 0xEC233502 ∧
    statusOf (ran .pack { base with counter := 37037036 }) = 0x00000302 := by decide

theorem test_pack_m9 : memRead (ran .pack { base with counter := 0x0888888888888888 }) 0x028 = 0x88888808 := by decide

/-! ### HMAC: vectors H2 and H6 -/

/-- A key of one byte 0x31 loaded, and the message of counter 1. -/
def keyed : State := { base with keyBuf := 0x31 :: zeros 19, keyLen := 1, msg := #v[0, 0, 0, 0, 0, 0, 0, 1] }

theorem test_hmac_request : (ran .hmac keyed).portReq = some ⟨.sha1, 1, [0x31], 8, #v[0, 0, 0, 0, 0, 0, 0, 1]⟩ ∧
    (ran .hmac keyed).phase = .wait ∧ statusOf (ran .hmac keyed) = 0x00000401 := by decide

theorem test_hmac_answers :
    memRead (answered (.ok digestG8) (ran .hmac keyed)) 0x060 = 0xB6793F85 ∧
    memRead (answered (.ok digestG8) (ran .hmac keyed)) 0x070 = 0x0274BECB ∧
    statusOf (answered (.ok digestG8) (ran .hmac keyed)) = 0x00000402 ∧
    statusOf (answered .unavailable (ran .hmac keyed)) = 0x00000406 ∧
    (answered .unavailable (ran .hmac keyed)).keyBuf = zeros 20 := by decide

/-! ### TRUNC: vectors T7 and T10 -/

/-- The digest of vector T7. -/
def digestT7 : Digest := ((Vector.replicate 20 0).set 6 0x2A).set 19 0xF3

theorem test_trunc_t7 :
    memRead (ran .trunc { base with digest := digestT7 }) 0x040 = 0x30303030 ∧
    memRead (ran .trunc { base with digest := digestT7 }) 0x044 = 0x00003234 ∧
    memRead (ran .trunc { base with digest := digestT7 }) 0x034 = 3 := by decide

theorem test_trunc_t10 :
    (ran .trunc { base with digest := digestG8 }).bincode = 0x79B6650A ∧
    (ran .trunc { base with digest := digestG8 }).code = 996554 ∧
    statusOf (ran .trunc { base with digest := digestG8 }) = 0x00000502 := by decide

/-! ### SECREM and RATIO: vectors K1, K3, K6 and K8 -/

theorem test_secrem_now : (ran .secrem base).secsRem = 1 ∧ statusOf (ran .secrem base) = 0x00000702 := by decide

theorem test_secremTs_k1 : (ran .secremTs { base with tsOvr := 0 }).secsRem = 30 := by decide

theorem test_ratio_now : memRead (ran .ratio base) 0x04C = 0x00001E01 ∧ statusOf (ran .ratio base) = 0x00000802 := by
  decide

theorem test_ratioTs_k8 : memRead (ran .ratioTs { base with tsOvr := 45 }) 0x04C = 0x00001E0F := by decide

/-! ### GENERATE: vectors G8, G14 and G15 -/

theorem test_generateTs_request :
    (ran .generateTs (withText jbsw base)).portReq =
      some ⟨.sha1, 10, [0x48, 0x65, 0x6C, 0x6C, 0x6F, 0x21, 0xDE, 0xAD, 0xBE, 0xEF], 8, #v[0, 0, 0, 0, 0, 0, 0, 1]⟩ ∧
    statusOf (ran .generateTs (withText jbsw base)) = 0x00000601 := by decide

theorem test_generateTs_code :
    (answered (.ok digestG8) (ran .generateTs (withText jbsw base))).codeStr = #v[0x39, 0x39, 0x36, 0x35, 0x35, 0x34] ∧
    statusOf (answered (.ok digestG8) (ran .generateTs (withText jbsw base))) = 0x00000602 := by decide

theorem test_generate_unavailable :
    (answered .unavailable (ran .generate (withText jbsw base))).codeStr = Vector.replicate 6 0x2D ∧
    statusOf (answered .unavailable (ran .generate (withText jbsw base))) = 0x00000606 := by decide

theorem test_generate_tooLong :
    (ran .generate { base with secretLen := 33 }).codeStr = Vector.replicate 6 0x2D ∧
    statusOf (ran .generate { base with secretLen := 33 }) = 0x0000060E := by decide

/-! ### The bus and the host syntax -/

/-- CONFIG of R22, vectors E2 and E9. -/
theorem test_bus_words :
    memRead State.reset 0x008 = 0x0100161E ∧ statusOf (memWrite 0x000 0x00000009 base) = 0x0000090A ∧
    statusOf (memWrite 0x000 0x00000001 (running .counter base)) = 0x00000241 := by decide

/-- The first words of program P2's LDSECRET, and its LDTS. -/
theorem test_host_syntax :
    (hostSteps (.ldsecret jbsw)).take 2 = [.write 0x400 0x5753424A, .write 0x404 0x50443359] ∧
    (hostSteps (.ldsecret jbsw)).drop 4 = [.write 0x00C 0x00000010] ∧
    programSteps [.ldts 59, .cmd .generateTs, .poll, .rsp .unavailable, .rd 0x040] =
      [.write 0x010 0x0000003B, .write 0x014 0x00000000, .write 0x000 0x00000106, .poll, .read 0x040] ∧
    lineMoves (.ldts 59) = [.host, .host] ∧ lineMoves (.rsp .unavailable) = [.respond .unavailable] := by decide

/-- The POLL of program P2's CMD PACK: it reads 0x301 and loops, then 0x302 and ends. -/
theorem test_poll_loops_while_busy :
    (hostTurn { running .pack base with host := [.poll, .read 0x028] }).readData = some 0x00000301 ∧
    (hostTurn { running .pack base with host := [.poll, .read 0x028] }).host = [.poll, .read 0x028] := by decide

theorem test_poll_ends_when_idle :
    (hostTurn { ran .pack base with host := [.poll, .read 0x028] }).readData = some 0x00000302 ∧
    (hostTurn { ran .pack base with host := [.poll, .read 0x028] }).host = [.read 0x028] := by decide

/-- A read of an undriven timestamp is the free value, and the next one is another. -/
theorem test_free_time : (running .counter { base with nowSec := none }).tLat = Config.freeTime 0 ∧
    (running .counter { base with nowSec := none }).draws = 1 := by exact ⟨rfl, by decide⟩

/-! ### Every statement's hypotheses are met: states that keep the invariant -/

/-- The invariant, clause by clause, as a test that evaluates. -/
def checkInv (s : State) : Bool :=
  decide (Config.legalCap s.secretCap = true ∧ Memory.wf s.secretBuf ∧ (∀ c ∈ s.secretBuf, c.1 < s.secretCap) ∧
    s.keyBuf.length = Config.keyCap s.secretCap ∧ s.keyLen.toNat ≤ Config.keyCap s.secretCap ∧
    s.keyBuf.drop s.keyLen.toNat = zeros (Config.keyCap s.secretCap - s.keyLen.toNat)) &&
  decide ((s.status.busy = true ↔ s.phase ≠ .idle) ∧ (s.status.done = true → s.status.busy = false) ∧
    s.status.err.toNat ≤ 3 ∧ (s.status.done = false → s.status.err = 0) ∧
    (s.status.invfmt = true → s.status.err = 0 ∨ s.status.err = 1) ∧ (s.phase = .exec → s.status.invfmt = false)) &&
  decide ((s.cur.isSome = true ↔ s.phase ≠ .idle) ∧
    s.cur.all (fun i => decide (s.status.lastop = i.fields.opc)) = true ∧
    (s.phase = .wait → s.cur.any (fun i => decide (awaitsProvider i)) = true) ∧
    (s.outstanding = true ↔ s.phase = .wait) ∧
    s.portReq = if s.outstanding then some (requestOf s) else none) &&
  decide (s.counter.toNat ≤ 0x0888888888888888 ∧ s.code.toNat = s.bincode.toNat % 1000000 ∧ codeStrLegal s ∧
    s.secsRem.toNat ≤ 30 ∧ s.ratioNum.toNat ≤ 30)

theorem inv_of_check {s : State} (h : checkInv s = true) : s.Inv := by
  simp only [checkInv, Bool.and_eq_true, decide_eq_true_eq] at h
  obtain ⟨⟨⟨⟨a1, a2, a3, a4, a5, a6⟩, b1, b2, b3, b4, b5, b6⟩, c1, c2, c3, c4, c5⟩, d1, d2, d3, d4, d5⟩ := h
  refine ⟨a1, a2, a3, a4, a5, a6, b1, b2, b3, b4, b5, b6, c1, ?_, ?_, c4, c5, d1, d2, d3, d4, d5⟩
  · intro i hi
    rw [hi] at c2
    simpa using c2
  · intro hp
    have h := c3 hp
    cases hc : s.cur with
    | none => rw [hc] at h; cases h
    | some i => rw [hc] at h; exact ⟨i, rfl, by simpa using h⟩

/-- A core that is idle after a completed command. -/
def idleDone : State := ran .counterTs (withText jbsw base)

/-- A core with GENERATE.TS accepted. -/
def inExec : State := running .generateTs (withText jbsw base)

/-- A core with GENERATE.TS accepted and SECRET_LEN above SECRET_CAP. -/
def tooLong : State := running .generateTs { base with secretLen := 33 }

/-- A core with DECODE accepted and SECRET_LEN above SECRET_CAP. -/
def tooLongDecode : State := running .decode { base with secretLen := 33 }

/-- A core that waits for the provider in GENERATE.TS. -/
def inWait : State := ran .generateTs (withText jbsw base)

/-- A core that waits for the provider in HMAC. -/
def inWaitHmac : State := ran .hmac keyed

/-- The host's program and the next moves of the agents. -/
def runs (s : State) (ops : List HostStep) (l : List Move) : State := { s with host := ops, inputs := l }

/-- The next moves of the agents. -/
def sees (s : State) (l : List Move) : State := runs s s.host l

theorem inv_base : base.Inv := inv_of_check (by decide)
theorem inv_idleDone : idleDone.Inv := inv_of_check (by decide)
theorem inv_inExec : inExec.Inv := inv_of_check (by decide)
theorem inv_tooLong : tooLong.Inv := inv_of_check (by decide)
theorem inv_tooLongDecode : tooLongDecode.Inv := inv_of_check (by decide)
theorem inv_inWait : inWait.Inv := inv_of_check (by decide)
theorem inv_inWaitHmac : inWaitHmac.Inv := inv_of_check (by decide)

/-- The host's program and the moves still to come are no registers: the invariant does not speak of them. -/
theorem inv_runs {s : State} (h : s.Inv) (ops : List HostStep) (l : List Move) : (runs s ops l).Inv :=
  ⟨h.capLegal, h.bufWf, h.bufBound, h.keyBufLength, h.keyLenBound, h.keyPadded, h.busyIff, h.doneNotBusy, h.errProduced,
    h.errWhenDone, h.invfmtErr, h.invfmtExec, h.curIff, h.lastopCur, h.waitCur, h.outstandingIff, h.portAgrees,
    h.counterBound, h.codeReduced, h.codeStrOk, h.secsRemBound, h.ratioNumBound⟩

theorem inv_sees {s : State} (h : s.Inv) (l : List Move) : (sees s l).Inv := inv_runs h s.host l

theorem not_accepts_of_nil {s : State} (h : s.inputs = []) : ¬ accepts s := by
  rintro ⟨_, _, _, _, _, hi, _⟩
  rw [h] at hi
  cases hi

theorem not_resets_of_nil {s : State} (h : s.inputs = []) : ¬ resets s := by
  rintro ⟨_, hi⟩
  rw [h] at hi
  cases hi

/-! ### Encoding and decoding -/

theorem witness_LegalExactlyWhenDecoded :
    (0x00000200#32).extractLsb' 0 8 = 0 ∧ 0x09 ≤ ((0x00000009#32).extractLsb' 0 8).toNat ∧
    (0x80000006#32).extractLsb' 9 23 ≠ 0 ∧
    ((0x00000105#32).getLsbD 8 = true ∧ ((0x00000105#32).extractLsb' 0 8).toNat ∈ [0x01, 0x03, 0x04, 0x05]) ∧
    ¬ legalWord 0x00000009 ∧ legalWord 0x00000108 := by
  unfold legalWord; decide

theorem witness_DecodeEncodeAgree : Instr.ratioTs.wf = true ∧ decodeWord 0x00000108 = .cmd .ratioTs ∧
    (Cmd32.ofWord 0x00000001).legal = true := by decide

theorem witness_StepRunsTheDecodedCommand :
    (decodeWord 0x00000106 = .cmd .generateTs ∧
      (runs base [.write 0x000 0x00000106, .poll] [.host, .core]).phase = .idle ∧
      (runs base [.write 0x000 0x00000106, .poll] [.host, .core]).inputs = .host :: .core :: [] ∧
      (runs base [.write 0x000 0x00000106, .poll] [.host, .core]).host = .write 0x000 0x00000106 :: [.poll]) ∧
    inExec.phase = .exec ∧ inExec.cur = some .generateTs ∧ inExec.inputs = [] := by decide

/-! ### The invariant and PHASE -/

theorem witness_ResetMeetsInvariant : Config.legalCap 32 = true ∧ Config.legalCap 256 = true ∧
    Config.legalCap 1024 = true ∧ Config.legalCap 31 = false ∧ Config.legalCap 33 = false ∧
    Config.legalCap 1032 = false := by decide

theorem witness_StepKeepsInvariant : inExec.Inv ∧ step inExec = .next (after (step inExec)) ∧
    inWait.Inv ∧ step (sees inWait [.respond (.ok digestG8)]) = .next (after (step (sees inWait [.respond (.ok digestG8)]))) :=
  ⟨inv_inExec, rfl, inv_inWait, rfl⟩

theorem witness_StepNeverStops : inExec.Inv ∧ inWait.Inv ∧ base.Inv := ⟨inv_inExec, inv_inWait, inv_base⟩

/-- EXEC to WAIT, EXEC to IDLE with 0 and with 3, WAIT to IDLE, and an illegal word. -/
theorem witness_PhaseMovesAsListed :
    (inExec.Inv ∧ step inExec = .next inWait ∧ inExec.phase = .exec ∧ inWait.phase = .wait) ∧
    (tooLong.Inv ∧ step tooLong = .next (after (step tooLong)) ∧ tooLong.phase = .exec ∧
      (after (step tooLong)).phase = .idle ∧ ¬ resets tooLong) ∧
    (tooLongDecode.Inv ∧ step tooLongDecode = .next (after (step tooLongDecode)) ∧
      (after (step tooLongDecode)).phase = .idle ∧ ¬ resets tooLongDecode) ∧
    ((sees inWait [.respond .unavailable]).Inv ∧ answers (sees inWait [.respond .unavailable]) .unavailable ∧
      (after (step (sees inWait [.respond .unavailable]))).phase = .idle) ∧
    (accepts (runs base [.write 0x000 0x00000009] [.host]) ∧
      (after (step (runs base [.write 0x000 0x00000009] [.host]))).phase = .idle) :=
  ⟨⟨inv_inExec, rfl, by decide, by decide⟩,
    ⟨inv_tooLong, rfl, by decide, by decide, not_resets_of_nil (by decide)⟩,
    ⟨inv_tooLongDecode, rfl, by decide, not_resets_of_nil (by decide)⟩,
    ⟨inv_sees inv_inWait _, .inl ⟨[], rfl⟩, by decide⟩, ⟨by decide, 0x000, 0x00000009, [], [], rfl, rfl, by decide⟩, by decide⟩

/-- A host that polls, and three of its turns. -/
theorem witness_SilentProviderHangsTheCore :
    ((runs inWait [.poll, .read 0x040] [.host, .core, .host, .drive none, .host]).Inv ∧
      (runs inWait [.poll, .read 0x040] [.host, .core, .host, .drive none, .host]).phase = .wait ∧
      (∀ m ∈ (runs inWait [.poll, .read 0x040] [.host, .core, .host, .drive none, .host]).inputs, endsWait m = false) ∧
      (runs inWait [.poll, .read 0x040] [.host, .core, .host, .drive none, .host]).host = .poll :: [.read 0x040]) ∧
    (inWait.phase = .wait ∧ inWait.inputs = []) ∧ resets (sees inWait [.reset]) :=
  ⟨⟨inv_runs inv_inWait _ _, by decide, by decide, by decide⟩, by decide, [], rfl⟩

/-- HMAC and DECODE from an idle core; POLL of a busy and of an idle core; a POLL that ends at its second turn. -/
theorem witness_CommandsCompleteInTheirSteps :
    ((runs base [.write 0x000 0x00000004, .poll] [.host, .core, .respond .unavailable]).Inv ∧ base.phase = .idle ∧
      decodeWord 0x00000004 = .cmd .hmac ∧ decodeWord 0x00000001 = .cmd .decode) ∧
    ((memRead (runs inExec [.poll] [.host]) 0x004).getLsbD 0 = true ∧
      (memRead (runs idleDone [.poll] [.host]) 0x004).getLsbD 0 = false) ∧
    (runs tooLong [.poll] [.host, .core, .host]).Inv ∧ tooLong.phase ≠ .idle ∧
    (∀ m ∈ (runs tooLong [.poll] [.host, .core, .host]).inputs, m ≠ .reset) ∧
    ∃ t, Host.Core.run Sys2Proof.core 3 (runs tooLong [.poll] [.host, .core, .host]) = .next t ∧ t.host ≠ .poll :: [] :=
  ⟨⟨inv_runs inv_base _ _, by decide⟩, by decide, inv_runs inv_tooLong _ _, by decide, by decide, _, rfl, by decide⟩

/-! ### Reset -/

theorem witness_ResetSetsEveryRegister : (sees inWait [.reset, .core]).inputs = .reset :: [.core] := rfl

theorem witness_StrayResponseHasNoEffect :
    ((sees base [.respond .unavailable]).outstanding = false ∧
      (sees base [.respond .unavailable]).inputs = [.respond .unavailable]) ∧
    (sees inWait [.reset, .respond .unavailable]).phase = .wait := by decide

/-! ### The register bus -/

/-- An unwritable offset, and the first and last offset of each reserved range, with SECRET_CAP = 32 and KEY_CAP = 20. -/
theorem witness_UnwritableAndReservedOffsets :
    ¬ writable 32 (busAddr 0x004) ∧ ¬ writable 32 (busAddr 0x420) ∧
    (∀ off ∈ [0x050, 0x05F, 0x074, 0x3FF, 0x420, 0x7FF, 0x814, 0xA7F, 0xA80, 0xFFF], reservedAddr 32 (busAddr off)) ∧
    ¬ reservedAddr 32 (busAddr 0x41C) ∧ ¬ reservedAddr 32 (busAddr 0x810) ∧ busAddr 0x003 = 0x000 := by
  simp [writable, inSecretWindow, reservedAddr, busAddr, Config.keyCap]

theorem witness_AccessesIgnoreLowOffsetBits :
    (runs base [.write 0x00F 5] [.host]).host = .write 0x00F 5 :: [] ∧
    (runs base [.read 0x00F] [.host]).host = .read 0x00F :: [] ∧ (runs base [] [.host]).inputs = .host :: [] := by decide

theorem witness_BuffersInLittleEndianLanes : idleDone.Inv ∧ idleDone.phase = .idle ∧ (31 < idleDone.secretCap) ∧
    (19 < idleDone.keyBuf.length) ∧
    { base with codeStr := #v[0x39, 0x39, 0x36, 0x35, 0x35, 0x34] }.codeStr = #v[0x39, 0x39, 0x36, 0x35, 0x35, 0x34] :=
  ⟨inv_idleDone, by decide⟩

theorem witness_ConfigIsHardwired : Config.legalCap base.secretCap = true ∧ State.reset.secretCap = 256 ∧
    step inExec = .next inWait := ⟨by decide, by decide, rfl⟩

theorem witness_SecretLenTakesElevenBits : base.phase = .idle ∧ inExec.phase ≠ .idle ∧
    tooLong.secretCap < tooLong.secretLen.toNat := by decide

theorem witness_TsOvrIsTwoWords : base.phase = .idle := by decide

/-- The last mapped word, the first unmapped one and the last, with SECRET_CAP = 32. -/
theorem witness_SecretWindowMapsSecretBuf : base.Inv ∧ base.phase = .idle ∧ 7 < base.secretCap / 4 ∧
    base.secretCap / 4 ≤ 8 ∧ base.secretCap / 4 ≤ 255 := ⟨inv_base, by decide⟩

/-- The last word of KEY_BUF, the first past it and the last, with KEY_CAP = 20. -/
theorem witness_KeyWindowMapsKeyBuf : base.Inv ∧ base.phase = .idle ∧ Config.keyCap base.secretCap = 20 ∧
    Config.keyCap base.secretCap ≤ 4 * 5 + 0 ∧ (Config.keyCap base.secretCap + 3) / 4 ≤ 5 ∧
    Config.legalCap 1024 = true := ⟨inv_base, by decide⟩

theorem witness_WritesWhileBusyAreDropped : inExec.phase ≠ .idle ∧
    (∀ off ∈ [0x000, 0x00C, 0x010, 0x014, 0x400, 0x41C], writable inExec.secretCap (busAddr off)) ∧
    ¬ writable inExec.secretCap (busAddr 0x420) ∧ ¬ writable inExec.secretCap (busAddr 0x800) := by
  refine ⟨by decide, ?_⟩
  rw [show inExec.secretCap = 32 by decide]
  simp [writable, inSecretWindow, busAddr]

theorem witness_ReadsAndRepeatedWritesHaveNoEffect : Memory.wf idleDone.secretBuf ∧ busAddr 0x400 ≠ 0x000 ∧
    idleDone.phase = .idle := by decide

/-- An idle core, each kind of exact offset, and a core in EXEC and in WAIT; what the written-out map and masks say of
TS_USED, RATIO and the two KEY window words about KEY_CAP = 20. -/
theorem witness_ResultReadsAreFreeWhileBusy :
    (idleDone.phase = .idle ∧ mapWord idleDone 0x018 = 59 ∧ mapWord idleDone 0x04C = 0x00001E00) ∧
    (busAddr 0x00E ∈ [0x000, 0x004, 0x008, 0x00C, 0x010, 0x014] ∧ inSecretWindow inExec.secretCap (busAddr 0x41C) ∧
      ¬ inSecretWindow inExec.secretCap (busAddr 0x420)) ∧
    (inExec.phase ≠ .idle ∧ inWait.phase ≠ .idle) ∧
    (freeBits 32 0x018 = 0xFFFFFFFF ∧ freeBits 32 0x04C = 0x1F ∧ freeBits 32 0x810 = 0xFFFFFFFF ∧
      freeBits 32 0x814 = 0 ∧ freeBits 40 0x818 = 0xFF) :=
  ⟨by decide, ⟨by decide, by decide, by decide⟩, by decide, by decide⟩

/-! ### Acceptance, completion and STATUS -/

theorem witness_AcceptStartsTheCommand : decodeWord 0x00000102 = .cmd .counterTs ∧ decodeWord 0x00000003 = .cmd .pack := by
  decide

theorem witness_IllegalWordChangesStatusOnly : (runs base [.write 0x002 0x00000009] [.host]).Inv ∧
    busAddr 0x002 = 0x000 ∧ base.phase = .idle ∧ ¬ legalWord 0x00000009 ∧
    (runs base [.write 0x000 0x00000009] [.host]).Inv :=
  ⟨inv_runs inv_base _ _, by decide, by decide, by unfold legalWord; decide, inv_runs inv_base _ _⟩

theorem witness_CompleteEndsTheCommand : decodeWord 0x00000005 = .cmd .trunc := by decide

theorem witness_BusyReadsPhase : inExec.Inv ∧ base.Inv ∧ decodeWord 0x00000008 = .cmd .ratio ∧
    decodeWord 0x00000000 = .illegal .unassignedOpcode := ⟨inv_inExec, inv_base, by decide⟩

theorem witness_DoneMarksCompletion : idleDone.Inv ∧ idleDone.status.done = true ∧
    step idleDone = .next idleDone ∧ ¬ accepts idleDone ∧ ¬ resets idleDone :=
  ⟨inv_idleDone, by decide, rfl, not_accepts_of_nil (by decide), not_resets_of_nil (by decide)⟩

theorem witness_ErrHoldsTheCompletionCode : tooLong.Inv ∧ step tooLong = .next (after (step tooLong)) ∧
    (after (step tooLong)).status.err = 3 := ⟨inv_tooLong, rfl, by decide⟩

/-- OVR stays over a read; a dropped write sets it. -/
theorem witness_OvrStaysUntilAcceptance :
    (inExec.phase ≠ .idle ∧ writable inExec.secretCap (busAddr 0x014)) ∧
    ((dropWrite inExec).status.ovr = true ∧ step (dropWrite inExec) = .next (after (step (dropWrite inExec))) ∧
      ¬ accepts (dropWrite inExec) ∧ ¬ resets (dropWrite inExec)) ∧
    ((runs inExec [.write 0x014 1] [.host]).status.ovr = false ∧
      step (runs inExec [.write 0x014 1] [.host]) = .next (after (step (runs inExec [.write 0x014 1] [.host]))) ∧
      (after (step (runs inExec [.write 0x014 1] [.host]))).status.ovr = true) :=
  ⟨⟨by decide, by unfold writable inSecretWindow; decide⟩,
    ⟨by decide, rfl, not_accepts_of_nil (by decide), not_resets_of_nil (by decide)⟩, by decide, rfl, by decide⟩

theorem witness_LastopKeepsTheOfferedOpcode : step inExec = .next inWait ∧ ¬ accepts inExec ∧ ¬ resets inExec :=
  ⟨rfl, not_accepts_of_nil (by decide), not_resets_of_nil (by decide)⟩

theorem witness_ResultsStayUntilAcceptance : idleDone.Inv ∧ (memRead idleDone 0x004).getLsbD 0 = false ∧
    step idleDone = .next idleDone ∧ ¬ accepts idleDone ∧ ¬ resets idleDone :=
  ⟨inv_idleDone, by decide, rfl, not_accepts_of_nil (by decide), not_resets_of_nil (by decide)⟩

/-! ### Time, and the core's own commands -/

theorem witness_TimestampIsSampledOnceAtAccept :
    (usesTime .counterTs = true ∧ Instr.counterTs.fields.tsel = true) ∧
    (usesTime .secrem = true ∧ Instr.secrem.fields.tsel = false ∧ base.nowSec = some 59) ∧
    { base with nowSec := none }.nowSec = none ∧ usesTime .trunc = false ∧
    (step inExec = .next inWait ∧ ¬ accepts inExec ∧ ¬ resets inExec) :=
  ⟨by decide, by decide, rfl, rfl, rfl, not_accepts_of_nil (by decide), not_resets_of_nil (by decide)⟩

theorem witness_CounterIsFloorOfThirtySeconds : (Instr.counter = .counter ∨ Instr.counter = .counterTs) ∧
    (Instr.counterTs = .counter ∨ Instr.counterTs = .counterTs) := by decide

theorem witness_TimerViewShowsRemainingSeconds : (Instr.secremTs = .secrem ∨ Instr.secremTs = .secremTs) ∧
    (Instr.ratio = .ratio ∨ Instr.ratio = .ratioTs) := by decide

/-- SECREM at 60, at 59 and just below 2^64, where the next step lies above the width (R94). -/
theorem witness_SecremReachesTheNextStep : (60#64).toNat % 30 = 0 ∧ (59#64).toNat % 30 = 29 ∧
    ((59#64).toNat < 60 ∧ 60 % 30 = 0) ∧ secrem 60 = 30 ∧ secrem 59 = 1 ∧ secrem 0xFFFFFFFFFFFFFFFF = 15 := by decide

theorem witness_DecodedLengthIsFloor :
    ((sanitize mzxw6).length = (sanitize [0x4D, 0x5A, 0x58, 0x57, 0x37]).length ∧
      (b32bits mzxw6).take (8 * (5 * (sanitize mzxw6).length / 8)) =
        (b32bits [0x4D, 0x5A, 0x58, 0x57, 0x37]).take (8 * (5 * (sanitize mzxw6).length / 8))) ∧
    Config.legalCap inExec.secretCap = true ∧ inExec.secretLen.toNat ≤ inExec.secretCap := by decide

theorem witness_UnpackerMatchesBitString : 2 < (b32decode mzxw6).length := by decide

/-- '=' is outside the alphabet, and 'm' is a lowercase letter. -/
theorem witness_FilterDropsAndFolds :
    ¬ ((0x41 ≤ padChar.toNat ∧ padChar.toNat ≤ 0x5A) ∨ (0x61 ≤ padChar.toNat ∧ padChar.toNat ≤ 0x7A) ∨
      (0x32 ≤ padChar.toNat ∧ padChar.toNat ≤ 0x37)) ∧
    0x61 ≤ (0x6D#8).toNat ∧ (0x6D#8).toNat ≤ 0x7A := by decide

theorem witness_DecodeLoadsTheKey : inExec.Inv ∧ inExec.secretLen.toNat ≤ inExec.secretCap ∧
    base.Inv ∧ base.secretLen.toNat ≤ base.secretCap := ⟨inv_inExec, by decide, inv_base, by decide⟩

theorem witness_SecretTooLongCompletesWithThree : tooLong.secretCap < tooLong.secretLen.toNat ∧
    exec .generateTs tooLong = .next (after (exec .generateTs tooLong)) ∧
    exec .decode tooLong = .next (after (exec .decode tooLong)) := ⟨by decide, rfl, rfl⟩

/-! ### The provider -/

theorem witness_HmacRequestsAndCompletes : (running .hmac keyed).Inv ∧ (running .hmac keyed).cur = some .hmac ∧
    (Answer.ok digestG8 = .ok digestG8 ∨ Answer.ok digestG8 = .unavailable) :=
  ⟨inv_of_check (by decide), by decide, .inl rfl⟩

theorem witness_ConformingProviderAnswersHmacFn : (sees inWaitHmac [.respondHmac]).Inv ∧
    inWaitHmac.phase = .wait ∧ (sees inWaitHmac [.respondHmac]).inputs = [.respondHmac] :=
  ⟨inv_sees inv_inWaitHmac _, by decide, rfl⟩

/-- Both answers, to HMAC and to GENERATE. -/
theorem witness_KeyIsClearedAtCompletion :
    ((sees inWait [.respond .unavailable]).Inv ∧ answers (sees inWait [.respond .unavailable]) .unavailable ∧
      step (sees inWait [.respond .unavailable]) = .next (after (step (sees inWait [.respond .unavailable])))) ∧
    ((sees inWaitHmac [.respond (.ok digestG8)]).Inv ∧ answers (sees inWaitHmac [.respond (.ok digestG8)]) (.ok digestG8) ∧
      inWaitHmac.phase = .wait) ∧ inWait.phase = .wait :=
  ⟨⟨inv_sees inv_inWait _, .inl ⟨[], rfl⟩, rfl⟩, ⟨inv_sees inv_inWaitHmac _, .inl ⟨[], rfl⟩, by decide⟩, by decide⟩

theorem witness_UnavailableCompletesWithOne :
    ((sees inWaitHmac [.respond .unavailable]).Inv ∧ inWaitHmac.phase = .wait ∧ inWaitHmac.cur = some .hmac) ∧
    (sees inWait [.respond .unavailable]).Inv ∧ inWait.phase = .wait ∧ inWait.cur ≠ some .hmac :=
  ⟨⟨inv_sees inv_inWaitHmac _, by decide⟩, inv_sees inv_inWait _, by decide⟩

/-! ### Truncation and GENERATE -/

theorem witness_TruncationFollowsTheFormulas : (0xF2#8) &&& 0x0F = digestG8[19] &&& 0x0F := by decide

theorem witness_CodeStringIsSixDecimalDigits : 999999 ≤ 999999 ∧ 0 ≤ 999999 := by decide

theorem witness_SentinelOnlyFromFailedGenerate :
    exec .trunc inExec = .next (after (exec .trunc inExec)) ∧
    tooLong.Inv ∧ step tooLong = .next (after (step tooLong)) ∧ tooLong.codeStr ≠ sentinel ∧
    (after (step tooLong)).codeStr = sentinel := ⟨rfl, inv_tooLong, rfl, by decide, by decide⟩

theorem witness_GenerateDerivesTheCode : inExec.Inv ∧ inExec.cur = some .generateTs ∧
    inExec.secretLen.toNat ≤ inExec.secretCap ∧ (running .generate (withText jbsw base)).Inv ∧
    (running .generate (withText jbsw base)).cur = some .generate :=
  ⟨inv_inExec, by decide, by decide, inv_of_check (by decide), by decide⟩

theorem witness_FailedGenerateLeavesTheSentinel :
    (tooLong.Inv ∧ tooLong.phase = .exec ∧ tooLong.cur = some .generateTs ∧
      tooLong.secretCap < tooLong.secretLen.toNat) ∧
    (inExec.Inv ∧ inExec.phase = .exec ∧ inExec.secretLen.toNat ≤ inExec.secretCap) ∧
    base.phase = .idle ∧ decodeWord 0x00000006 = .cmd .generate :=
  ⟨⟨inv_tooLong, by decide⟩, ⟨inv_inExec, by decide⟩, by decide⟩

theorem witness_GenerateEqualsItsStages : inExec.Inv ∧ inExec.cur = some .generateTs ∧
    inExec.secretLen.toNat ≤ inExec.secretCap ∧ Answer.ok digestG8 = .ok digestG8 :=
  ⟨inv_inExec, by decide, by decide, rfl⟩

/-- GENERATE.TS and GENERATE, the second after another command. -/
theorem witness_CodeDependsOnSecretAndTimeOnly :
    inExec.Inv ∧ (running .generate (withText jbsw idleDone)).Inv ∧ inExec.cur = some .generateTs ∧
    (running .generate (withText jbsw idleDone)).cur = some .generate ∧
    inExec.secretLen.toNat ≤ inExec.secretCap ∧
    secretText inExec = secretText (running .generate (withText jbsw idleDone)) ∧
    inExec.tLat = (running .generate (withText jbsw idleDone)).tLat :=
  ⟨inv_inExec, inv_of_check (by decide), by decide, by decide, by decide, rfl, by decide⟩

theorem witness_CommandsWriteOnlyTheirRegisters : exec .ratio inExec = .next (after (exec .ratio inExec)) ∧
    exec .pack inExec = .next (after (exec .pack inExec)) := ⟨rfl, rfl⟩

theorem witness_InputsAreStableDuringACommand : inExec.phase ≠ .idle ∧ step inExec = .next inWait ∧ ¬ resets inExec :=
  ⟨by decide, rfl, not_resets_of_nil (by decide)⟩

/-- The empty text, one word and a short last word, and LDTS. -/
theorem witness_LoadPseudoInstructionsLoad : base.Inv ∧ base.phase = .idle ∧
    ([] : Bytes).length ≤ base.secretCap ∧ mzxw6.length ≤ base.secretCap ∧ (jbsw.take 6).length ≤ base.secretCap ∧
    (runs base (hostSteps (.ldsecret mzxw6) ++ [.poll]) []).host = hostSteps (.ldsecret mzxw6) ++ [.poll] ∧
    (runs base [] (lineMoves (.ldsecret mzxw6) ++ [.core])).inputs = lineMoves (.ldsecret mzxw6) ++ [.core] ∧
    (runs base (hostSteps (.ldts 59)) (lineMoves (.ldts 59))).host = hostSteps (.ldts 59) ++ [] :=
  ⟨inv_base, by decide, by decide, by decide, by decide, rfl, rfl, by decide⟩

end Sys2Proof.Tests
end

section
/-! PROOFS. The legal words are the words of the twelve commands (R63, R65). -/

namespace Sys2Proof

/-- The reserved field of every command is 0 (R59). -/
theorem Instr.fields_rsv (i : Instr) : i.fields.rsv = 0 := by cases i <;> rfl

/-- A legal word is the word of its command's fields. -/
theorem ofWord_of_decodeWord {w : Word} {i : Instr} (h : decodeWord w = .cmd i) : Cmd32.ofWord w = i.fields := by
  by_cases hr : (Cmd32.ofWord w).rsv = 0
  · rw [decodeWord_fields hr] at h
    obtain ⟨hopc, htsel⟩ := fields_of_decodeFields h
    have hopc' : (Cmd32.ofWord w).opc = i.fields.opc := BitVec.eq_of_toNat_eq hopc
    rw [← i.fields_rsv] at hr
    cases hc : Cmd32.ofWord w
    cases hf : i.fields
    simp_all
  · rw [decodeWord_reserved hr] at h
    cases h

theorem opcodeBits_of_decodeWord {w : Word} {i : Instr} (h : decodeWord w = .cmd i) : opcodeBits w = i.fields.opc := by
  rw [opcodeBits, ofWord_of_decodeWord h]

theorem eq_encode_of_decodeWord {w : Word} {i : Instr} (h : decodeWord w = .cmd i) : w = encode i := by
  rw [encode, ← ofWord_of_decodeWord h, Cmd32.toWord_ofWord]

theorem decodeWord_encode (i : Instr) : decodeWord (encode i) = .cmd i := by cases i <;> decide

theorem encode_mem_commandWords (i : Instr) : encode i ∈ Spec.commandWords.map Prod.fst := by cases i <;> decide

theorem commandWords_eq_encode : ∀ p ∈ Spec.commandWords, p.1 = encode p.2 := by decide

/-- The words of R65 are the words that decode to a command. -/
theorem mem_commandWords_iff {w : Word} : w ∈ Spec.commandWords.map Prod.fst ↔ ∃ i, decodeWord w = .cmd i := by
  constructor
  · intro h
    obtain ⟨p, hp, rfl⟩ := List.mem_map.1 h
    exact ⟨p.2, by rw [commandWords_eq_encode p hp, decodeWord_encode]⟩
  · rintro ⟨i, h⟩
    rw [eq_encode_of_decodeWord h]
    exact encode_mem_commandWords i

end Sys2Proof
end

section
/-! PROOFS. The invariant under each operation: the clauses on the registers apart from those on the control. -/

namespace Sys2Proof.Machine

/-! ### The decoded key fits KEY_BUF -/

theorem b32unpack_length_le (cs : Bytes) : ∀ acc n, 8 * (b32unpack acc n cs).length ≤ n + 5 * cs.length := by
  induction cs with
  | nil => intro acc n; simp [b32unpack]
  | cons c cs ih =>
    intro acc n
    unfold b32unpack
    split
    · have h := ih acc n
      simp only [List.length_cons]; omega
    · next u _ =>
      by_cases h8 : 8 ≤ n + 5
      · have h := ih ((acc <<< 5 ||| b32val u) &&& ((1 <<< (n + 5 - 8)) - 1)) (n + 5 - 8)
        simp only [if_pos h8, List.length_cons]; omega
      · have h := ih (acc <<< 5 ||| b32val u) (n + 5)
        simp only [if_neg h8, List.length_cons]; omega

theorem b32decode_length_le (cs : Bytes) : (b32decode cs).length ≤ 5 * cs.length / 8 := by
  have h := b32unpack_length_le cs 0 0
  unfold b32decode
  omega

theorem secretTooLong_eq_false {s : State} : secretTooLong s = false ↔ s.secretLen.toNat ≤ s.secretCap := by
  simp [secretTooLong]

theorem secretTooLong_eq_true {s : State} : secretTooLong s = true ↔ s.secretCap < s.secretLen.toNat := by
  simp [secretTooLong]

theorem decodedKey_length_le {s : State} (h : secretTooLong s = false) :
    (b32decode (secretText s)).length ≤ Config.keyCap s.secretCap := by
  have hl := b32decode_length_le (secretText s)
  have ht : (secretText s).length = s.secretLen.toNat := by simp [secretText]
  have hc := secretTooLong_eq_false.1 h
  unfold Config.keyCap
  omega

theorem legalCap_le {cap : Nat} (h : Config.legalCap cap = true) : cap ≤ 1024 := by
  simp only [Config.legalCap, Bool.and_eq_true, decide_eq_true_eq] at h
  obtain ⟨⟨_, hle⟩, _⟩ := h
  exact hle

theorem keyCap_le {cap : Nat} (h : Config.legalCap cap = true) : Config.keyCap cap ≤ 640 := by
  have hc := legalCap_le h
  unfold Config.keyCap
  omega

/-! ### The values the stages write are in range -/

theorem timeCounter_toNat (t : Stamp) : (timeCounter t).toNat = t.toNat / 30 := by
  have := t.isLt
  simp only [timeCounter, Config.stepSeconds, BitVec.toNat_ofNat]
  omega

theorem timeCounter_le (t : Stamp) : (timeCounter t).toNat ≤ 0x0888888888888888 := by
  have := t.isLt
  rw [timeCounter_toNat]
  omega

theorem codeOf_toNat (b : BitVec 31) : (codeOf b).toNat = b.toNat % 1000000 := by
  simp only [codeOf, Config.codeModulus, BitVec.toNat_ofNat]
  omega

theorem secrem_toNat (t : Stamp) : (BitVec.ofNat 5 (secrem t)).toNat = 30 - t.toNat % 30 := by
  simp only [secrem, Config.stepSeconds, BitVec.toNat_ofNat]
  omega

theorem secrem_toNat_le (t : Stamp) : (BitVec.ofNat 5 (secrem t)).toNat ≤ 30 := by
  rw [secrem_toNat]
  omega

/-! ### The clauses of the invariant on the registers -/

/-- The clauses of the invariant that no change of STATUS, PHASE, CUR or the provider port touches. -/
structure RegistersOk (s : State) : Prop where
  capLegal : Config.legalCap s.secretCap = true
  bufWf : Memory.wf s.secretBuf
  bufBound : ∀ c ∈ s.secretBuf, c.1 < s.secretCap
  keyBufLength : s.keyBuf.length = Config.keyCap s.secretCap
  keyLenBound : s.keyLen.toNat ≤ Config.keyCap s.secretCap
  keyPadded : s.keyBuf.drop s.keyLen.toNat = zeros (Config.keyCap s.secretCap - s.keyLen.toNat)
  counterBound : s.counter.toNat ≤ 0x0888888888888888
  codeReduced : s.code.toNat = s.bincode.toNat % 1000000
  codeStrOk : codeStrLegal s
  secsRemBound : s.secsRem.toNat ≤ 30
  ratioNumBound : s.ratioNum.toNat ≤ 30

theorem State.Inv.registersOk {s : State} (h : s.Inv) : RegistersOk s := { h with }

theorem registersOk_resetWith {cap : Nat} (h : Config.legalCap cap = true) : RegistersOk (State.resetWith cap) where
  capLegal := h
  bufWf := resetWith_wf cap
  bufBound := by simp [State.resetWith]
  keyBufLength := by simp [State.resetWith, zeros]
  keyLenBound := Nat.zero_le _
  keyPadded := rfl
  counterBound := Nat.zero_le _
  codeReduced := rfl
  codeStrOk := .inl rfl
  secsRemBound := Nat.zero_le _
  ratioNumBound := Nat.zero_le _

section

variable {s : State}

theorem registersOk_zeroize (h : RegistersOk s) : RegistersOk (zeroize s) :=
  { h with
    keyBufLength := by simp [zeros]
    keyLenBound := Nat.zero_le _
    keyPadded := rfl }

theorem registersOk_loadKey (h : RegistersOk s) {k : Bytes} (hk : k.length ≤ Config.keyCap s.secretCap) :
    RegistersOk (loadKey k s) := by
  have hkl : (loadKey k s).keyLen.toNat = k.length := by
    have hc := keyCap_le h.capLegal
    simp only [loadKey_keyLen, BitVec.toNat_ofNat]
    omega
  exact
    { h with
      keyBufLength := by simp [zeros]; omega
      keyLenBound := by rw [hkl]; exact hk
      keyPadded := by rw [hkl]; simp }

theorem registersOk_decodeSecret (h : RegistersOk s) (hf : secretTooLong s = false) : RegistersOk (decodeSecret s) :=
  registersOk_loadKey h (decodedKey_length_le hf)

theorem registersOk_countTime (h : RegistersOk s) : RegistersOk (countTime s) :=
  { h with counterBound := timeCounter_le s.tLat }

theorem registersOk_packCounter (h : RegistersOk s) : RegistersOk (packCounter s) := { h with }

theorem registersOk_setDigest (h : RegistersOk s) (d : Digest) : RegistersOk (setDigest d s) := { h with }

theorem registersOk_truncateDigest (h : RegistersOk s) : RegistersOk (truncateDigest s) :=
  { h with
    codeReduced := codeOf_toNat (binaryCode s.digest)
    codeStrOk := .inr (.inr rfl) }

theorem registersOk_setSentinel (h : RegistersOk s) : RegistersOk (setCodeStr sentinel s) :=
  { h with codeStrOk := .inr (.inl rfl) }

theorem registersOk_viewSeconds (h : RegistersOk s) : RegistersOk (viewSeconds s) :=
  { h with secsRemBound := secrem_toNat_le s.tLat }

theorem registersOk_viewRatio (h : RegistersOk s) : RegistersOk (viewRatio s) :=
  { h with ratioNumBound := secrem_toNat_le s.tLat }

end

/-! ### The invariant where a command starts, waits and completes -/

/-- Command `i` has been accepted and has not completed: CUR and STATUS (R106). -/
structure Running (i : Instr) (s : State) : Prop where
  cur : s.cur = some i
  busy : s.status.busy = true
  done : s.status.done = false
  err : s.status.err = 0
  lastop : s.status.lastop = i.fields.opc

theorem State.Inv.busy_eq_false {s : State} (h : s.Inv) (hp : s.phase = .idle) : s.status.busy = false :=
  Bool.eq_false_iff.2 fun hb => h.busyIff.1 hb hp

theorem State.Inv.outstanding_eq_false {s : State} (h : s.Inv) (hp : s.phase ≠ .wait) : s.outstanding = false :=
  Bool.eq_false_iff.2 fun ho => hp (h.outstandingIff.1 ho)

theorem State.Inv.portReq_eq_none {s : State} (h : s.Inv) (hp : s.phase ≠ .wait) : s.portReq = none := by
  rw [h.portAgrees, h.outstanding_eq_false hp]
  rfl

/-- A core that is not idle runs a command. -/
theorem State.Inv.running {s : State} (h : s.Inv) (hp : s.phase ≠ .idle) : ∃ i, Running i s := by
  obtain ⟨i, hc⟩ := Option.isSome_iff_exists.1 (h.curIff.2 hp)
  have hb := h.busyIff.2 hp
  have hd : s.status.done = false := Bool.eq_false_iff.2 fun hd => by simp [h.doneNotBusy hd] at hb
  exact ⟨i, hc, hb, hd, h.errWhenDone hd, h.lastopCur i hc⟩

theorem errCode_toNat_le (e : Err) : (errCode e).toNat ≤ 3 := by cases e <;> decide

/-- A completion meets the invariant, when no request is outstanding and INVFMT goes with the code (R105, R107). -/
theorem inv_complete {s : State} {e : Err} (h : RegistersOk s) (ho : s.outstanding = false) (hr : s.portReq = none)
    (hf : s.status.invfmt = true → e = .none ∨ e = .primitiveUnavailable) : (complete e s).Inv :=
  { h with
    busyIff := by simp
    doneNotBusy := by simp
    errProduced := errCode_toNat_le e
    errWhenDone := by simp
    invfmtErr := fun hi => (hf hi).imp (fun he => by simp [he, errCode]) fun he => by simp [he, errCode]
    invfmtExec := by simp
    curIff := by simp
    lastopCur := by simp
    waitCur := by simp
    outstandingIff := by simp [ho]
    portAgrees := by simp [ho, hr] }

/-- A request issued for HMAC or GENERATE meets the invariant (R80). -/
theorem inv_hmacRequest {s : State} {i : Instr} (h : RegistersOk s) (hr : Running i s) (hi : awaitsProvider i) :
    (hmacRequest s).Inv :=
  { h with
    busyIff := by simp [hr.busy]
    doneNotBusy := by simp [hr.done]
    errProduced := by simp [hr.err]
    errWhenDone := fun _ => hr.err
    invfmtErr := fun _ => .inl hr.err
    invfmtExec := by simp
    curIff := by simp [hr.cur]
    lastopCur := fun j hj => by
      obtain rfl : i = j := by simpa [hr.cur] using hj
      exact hr.lastop
    waitCur := fun _ => ⟨i, hr.cur, hi⟩
    outstandingIff := by simp
    portAgrees := rfl }

/-- The first step of a legal command meets the invariant (R106). -/
theorem inv_enterExec {s : State} {i : Instr} (h : RegistersOk s) (ho : s.outstanding = false) (hr : s.portReq = none)
    (hd : s.status.done = false) (he : s.status.err = 0) (hf : s.status.invfmt = false)
    (hl : s.status.lastop = i.fields.opc) : (enterExec i s).Inv :=
  { h with
    busyIff := by simp
    doneNotBusy := by simp [hd]
    errProduced := by simp [he]
    errWhenDone := fun _ => he
    invfmtErr := by simp [hf]
    invfmtExec := fun _ => hf
    curIff := by simp
    lastopCur := fun j hj => by
      obtain rfl : i = j := by simpa using hj
      exact hl
    waitCur := by simp
    outstandingIff := by simp [ho]
    portAgrees := by simp [ho, hr] }

/-! ### Reset -/

theorem inv_resetWith {cap : Nat} (h : Config.legalCap cap = true) : (State.resetWith cap).Inv :=
  { registersOk_resetWith h with
    busyIff := by simp [State.resetWith, Status.reset]
    doneNotBusy := by simp [State.resetWith, Status.reset]
    errProduced := by simp [State.resetWith, Status.reset]
    errWhenDone := fun _ => rfl
    invfmtErr := fun _ => .inl rfl
    invfmtExec := fun _ => rfl
    curIff := by simp [State.resetWith]
    lastopCur := by simp [State.resetWith]
    waitCur := by simp [State.resetWith]
    outstandingIff := by simp [State.resetWith]
    portAgrees := rfl }

theorem inv_applyReset {s : State} (h : s.Inv) : (applyReset s).Inv := { inv_resetWith h.capLegal with }

/-- Settles O6: every clause holds of the reset values (R13). -/
theorem resetMeetsInvariant : Obligations.ResetMeetsInvariant :=
  ⟨fun _ h => inv_resetWith h, inv_resetWith (by decide)⟩

end Sys2Proof.Machine
end

section
/-! PROOFS. What one step can do, in the words of the statements. -/

namespace Sys2Proof.Machine

open Host (Outcome)
open Sys2Proof.Spec

/-! ### Host writes -/

theorem regOf_eq_regAt (off : Offset) : regOf off = regAt (busAddr off) := rfl

/-- The registers a host may write, by their offsets (R42, R43). -/
theorem writable_iff {cap : Nat} {off : Offset} :
    writable cap (busAddr off) ↔
      regOf off = .cmd ∨ regOf off = .secretLen ∨ regOf off = .tsOvrLo ∨ regOf off = .tsOvrHi ∨
        ∃ w, regOf off = .secretWin w ∧ secretMapped cap w = true := by
  simp only [regOf_eq_regAt, regAt_eq_cmd, regAt_eq_secretLen, regAt_eq_tsOvrLo, regAt_eq_tsOvrHi, regAt_eq_secretWin,
    secretMapped, decide_eq_true_eq, writable, inSecretWindow]
  grind

/-- `f` writes `v` to one input register or one mapped SECRET window word (R42). -/
def InputWrite (cap : Nat) (v : Word) (f : State → State) : Prop :=
  f = setSecretLen v ∨ f = setTsOvrLo v ∨ f = setTsOvrHi v ∨
    ∃ w, secretMapped cap w = true ∧ f = setSecretWord w v

/-- A write of an offset that is not writable has no effect (R42). -/
theorem memWrite_unwritable {off : Offset} {s : State} (h : ¬ writable s.secretCap (busAddr off)) (v : Word) :
    memWrite off v s = s := by
  rw [writable_iff] at h
  unfold memWrite
  cases hr : regOf off with
  | cmd | secretLen | tsOvrLo | tsOvrHi => simp [hr] at h
  | secretWin w => exact if_neg fun hm => h (by simp [hr, hm])
  | _ => rfl

/-- A write of a writable offset is an acceptance at CMD, else the write of an input; both only while PHASE is IDLE. -/
theorem memWrite_writable {off : Offset} {s : State} (h : writable s.secretCap (busAddr off)) (v : Word) :
    ∃ f, memWrite off v s = writeInput f s ∧
      ((busAddr off = 0x000 ∧ f = accept v) ∨ (busAddr off ≠ 0x000 ∧ InputWrite s.secretCap v f)) := by
  have cmd_iff : regOf off = .cmd ↔ busAddr off = 0x000 := regAt_eq_cmd
  rcases writable_iff.1 h with hr | hr | hr | hr | ⟨w, hr, hm⟩ <;> simp only [memWrite, hr]
  · exact ⟨_, rfl, .inl ⟨cmd_iff.1 hr, rfl⟩⟩
  · exact ⟨_, rfl, .inr ⟨fun h0 => by simp [cmd_iff.2 h0] at hr, .inl rfl⟩⟩
  · exact ⟨_, rfl, .inr ⟨fun h0 => by simp [cmd_iff.2 h0] at hr, .inr (.inl rfl)⟩⟩
  · exact ⟨_, rfl, .inr ⟨fun h0 => by simp [cmd_iff.2 h0] at hr, .inr (.inr (.inl rfl))⟩⟩
  · exact ⟨_, if_pos hm, .inr ⟨fun h0 => by simp [cmd_iff.2 h0] at hr, .inr (.inr (.inr ⟨w, hm, rfl⟩))⟩⟩

/-- A write of a writable offset while the core is busy is dropped (R110). -/
theorem memWrite_busy {off : Offset} {s : State} (h : writable s.secretCap (busAddr off)) (hp : s.phase ≠ .idle)
    (v : Word) : memWrite off v s = dropWrite s := by
  obtain ⟨f, hf, _⟩ := memWrite_writable h v
  rw [hf, writeInput_busy f hp]

/-- A write of CMD while PHASE is IDLE offers the word (R106). -/
theorem memWrite_cmd {off : Offset} {s : State} (h : busAddr off = 0x000) (hp : s.phase = .idle) (v : Word) :
    memWrite off v s = accept v s := by
  obtain ⟨f, hf, ⟨_, rfl⟩ | ⟨h0, _⟩⟩ := memWrite_writable (s := s) (.inl h) v
  · rw [hf, writeInput_idle _ hp]
  · exact absurd h h0

/-- A write of another writable offset while PHASE is IDLE writes the input. -/
theorem memWrite_input {off : Offset} {s : State} (h : writable s.secretCap (busAddr off)) (h0 : busAddr off ≠ 0x000)
    (hp : s.phase = .idle) (v : Word) : ∃ f, InputWrite s.secretCap v f ∧ memWrite off v s = f s := by
  obtain ⟨f, hf, ⟨h1, _⟩ | ⟨_, hi⟩⟩ := memWrite_writable h v
  · exact absurd h1 h0
  · exact ⟨f, hi, by rw [hf, writeInput_idle f hp]⟩

/-! ### One step -/

/-- `t` is `s` but for the fields that are no registers of the core. -/
def Quiet (s t : State) : Prop :=
  ∃ n r h i d, t = { s with nowSec := n, readData := r, host := h, inputs := i, draws := d }

theorem Quiet.refl (s : State) : Quiet s s := ⟨_, _, _, _, _, rfl⟩

theorem quiet_popped (s : State) : Quiet s (popped s) := ⟨_, _, _, _, _, rfl⟩

section
variable {s t : State} (h : Quiet s t)
include h

theorem Quiet.status : t.status = s.status := by obtain ⟨n, r, ops, l, d, rfl⟩ := h; rfl
theorem Quiet.phase : t.phase = s.phase := by obtain ⟨n, r, ops, l, d, rfl⟩ := h; rfl
theorem Quiet.cur : t.cur = s.cur := by obtain ⟨n, r, ops, l, d, rfl⟩ := h; rfl
theorem Quiet.outstanding : t.outstanding = s.outstanding := by obtain ⟨n, r, ops, l, d, rfl⟩ := h; rfl
theorem Quiet.secretCap : t.secretCap = s.secretCap := by obtain ⟨n, r, ops, l, d, rfl⟩ := h; rfl
theorem Quiet.secretLen : t.secretLen = s.secretLen := by obtain ⟨n, r, ops, l, d, rfl⟩ := h; rfl

end

/-- Everything a step can do to the registers, with the agent and the guard of each effect (R39, R112). -/
inductive StepEffect (s t : State) : Prop where
  | quiet (hq : Quiet s t)
  | exec (u : State) (i : Instr) (hq : Quiet s u) (hm : coreMoves s) (hp : s.phase = .exec) (hc : s.cur = some i)
      (he : exec i u = .next t)
  | response (u : State) (a : Answer) (hq : Quiet s u) (ha : answers s a) (ho : s.outstanding = true)
      (hr : respond a u = .next t)
  | dropped (u : State) (off : Offset) (v : Word) (ops : List HostStep) (rest : List Move) (hq : Quiet s u)
      (hi : s.inputs = .host :: rest) (hh : s.host = .write off v :: ops) (hw : writable s.secretCap (busAddr off))
      (hp : s.phase ≠ .idle) (ht : t = dropWrite u)
  | accepted (u : State) (w : Word) (hq : Quiet s u) (ha : accepts s) (ht : t = accept w u)
  | written (u : State) (v : Word) (f : State → State) (hq : Quiet s u) (hp : s.phase = .idle)
      (hf : InputWrite s.secretCap v f) (ht : t = f u)
  | reset (u : State) (hq : Quiet s u) (hr : resets s) (ht : t = applyReset u)

theorem coreStep_effect {s u t : State} (hq : Quiet s u) (hm : coreMoves s) (h : coreStep u = .next t) :
    StepEffect s t := by
  by_cases hp : u.phase = .exec
  · cases hc : u.cur with
    | none => rw [coreStep_noCommand hp hc] at h; cases h
    | some i => exact .exec u i hq hm (hq.phase ▸ hp) (hq.cur ▸ hc) (coreStep_exec hp hc ▸ h)
  · rw [coreStep_notExec hp] at h
    cases h
    exact .quiet hq

theorem respond_effect {s u t : State} {a : Answer} (hq : Quiet s u) (ha : answers s a) (h : respond a u = .next t) :
    StepEffect s t := by
  by_cases ho : u.outstanding = true
  · exact .response u a hq ha (hq.outstanding ▸ ho) h
  · rw [respond, if_neg ho] at h
    cases h
    exact .quiet hq

theorem memWrite_effect {s u : State} {off : Offset} {v : Word} {ops : List HostStep} {rest : List Move}
    (hq : Quiet s u) (hi : s.inputs = .host :: rest) (hh : s.host = .write off v :: ops) :
    StepEffect s (memWrite off v u) := by
  by_cases hw : writable u.secretCap (busAddr off)
  · by_cases hp : u.phase = .idle
    · by_cases h0 : busAddr off = 0x000
      · exact .accepted u v hq ⟨hq.phase ▸ hp, off, v, ops, rest, hi, hh, h0⟩ (memWrite_cmd h0 hp v)
      · obtain ⟨f, hf, hft⟩ := memWrite_input hw h0 hp v
        exact .written u v f hq (hq.phase ▸ hp) (hq.secretCap ▸ hf) hft
    · exact .dropped u off v ops rest hq hi hh (hq.secretCap ▸ hw) (hq.phase ▸ hp) (memWrite_busy hw hp v)
  · rw [memWrite_unwritable hw v]
    exact .quiet hq

theorem hostTurn_effect {s : State} {rest : List Move} (hi : s.inputs = .host :: rest) :
    StepEffect s (hostTurn (popped s)) := by
  rcases hostTurn_cases (popped s) with ⟨_, ht⟩ | ⟨off, ops, ht, _⟩ | ⟨off, v, ops, hh, ht⟩ <;> rw [ht]
  · exact .quiet (quiet_popped s)
  · exact .quiet ⟨_, _, _, _, _, rfl⟩
  · exact memWrite_effect ⟨_, _, _, _, _, rfl⟩ hi hh

theorem step_effect {s t : State} (h : step s = .next t) : StepEffect s t := by
  cases hi : s.inputs with
  | nil => exact coreStep_effect (.refl s) (.inl hi) (by rw [← h, step_core hi])
  | cons m rest =>
    have hp : step s = act m (popped s) := by rw [step_move hi, popped, hi, List.tail_cons]
    rw [hp] at h
    cases m with
    | host => cases h; exact hostTurn_effect hi
    | core => exact coreStep_effect (quiet_popped s) (.inr ⟨rest, hi⟩) h
    | respond a => exact respond_effect (quiet_popped s) (.inl ⟨rest, hi⟩) h
    | respondHmac =>
      cases hr : s.portReq with
      | none =>
        rw [act_respondHmac_none (s := popped s) hr] at h
        cases h
        exact .quiet (quiet_popped s)
      | some r =>
        rw [act_respondHmac (s := popped s) hr] at h
        exact respond_effect (quiet_popped s) (.inr ⟨rest, r, hi, hr, rfl⟩) h
    | drive now => cases h; exact .quiet ⟨_, _, _, _, _, rfl⟩
    | reset => cases h; exact .reset _ (quiet_popped s) ⟨rest, hi⟩ rfl

/-! ### The invariant under a step -/

theorem inv_quiet {s t : State} (h : s.Inv) (hq : Quiet s t) : t.Inv := by
  obtain ⟨n, r, ops, l, d, rfl⟩ := hq
  exact { h with }

theorem inv_dropWrite {s : State} (h : s.Inv) : (dropWrite s).Inv := { h with }

theorem inv_inputWrite {s : State} {v : Word} {f : State → State} (h : s.Inv) (hf : InputWrite s.secretCap v f) :
    (f s).Inv := by
  rcases hf with rfl | rfl | rfl | ⟨w, hm, rfl⟩
  · exact { h with }
  · exact { h with }
  · exact { h with }
  · have hw : w < s.secretCap / 4 := by simpa [secretMapped] using hm
    exact
      { h with
        bufWf := setSecretWord_wf w v h.bufWf
        bufBound := fun c hc => by
          have h4 : (lanes v).length = 4 := rfl
          rcases Memory.mem_insertAll _ _ hc with hc | hc
          · rw [setSecretWord_secretCap]; omega
          · exact h.bufBound c hc }

/-- Accept meets the invariant, of a legal word and of an illegal one (R106). -/
theorem inv_accept {s : State} (h : s.Inv) (hp : s.phase = .idle) (w : Word) : (accept w s).Inv := by
  have hw : s.phase ≠ .wait := by simp [hp]
  have ho := h.outstanding_eq_false hw
  have hr := h.portReq_eq_none hw
  have ok := h.registersOk
  cases hd : decodeWord w with
  | illegal r =>
    rw [accept_illegal hd]
    exact inv_complete { ok with } ho hr (by simp)
  | cmd i =>
    have hl := opcodeBits_of_decodeWord hd
    rw [accept_cmd hd]
    cases ht : usesTime i with
    | true =>
      rw [acceptInstr_timed ht]
      exact inv_enterExec { ok with } ho hr rfl rfl rfl hl
    | false =>
      rw [acceptInstr_untimed ht]
      exact inv_enterExec { ok with } ho hr rfl rfl rfl hl


/-- The EXEC step of the current command meets the invariant. -/
theorem inv_exec {s t : State} {i : Instr} (h : s.Inv) (hp : s.phase = .exec) (hc : s.cur = some i)
    (he : exec i s = .next t) : t.Inv := by
  have hw : s.phase ≠ .wait := by simp [hp]
  have ho := h.outstanding_eq_false hw
  have hr := h.portReq_eq_none hw
  have hf := h.invfmtExec hp
  have ok := h.registersOk
  obtain ⟨j, hj⟩ := h.running (by simp [hp])
  obtain rfl : j = i := Option.some.inj (hj.cur.symm.trans hc)
  rcases exec_cases j s with ⟨u, hx, hu⟩ | ⟨hi, hx⟩ | ⟨hi, hl, hx⟩ | ⟨_, _, hx⟩ | ⟨_, _, hx⟩ <;>
    obtain rfl := Outcome.next.inj (he.symm.trans hx)
  · rcases hu with ⟨_, hl, rfl⟩ | ⟨_, rfl⟩ | ⟨_, rfl⟩ | ⟨_, rfl⟩ | ⟨_, rfl⟩ | ⟨_, rfl⟩
    · exact inv_complete (registersOk_decodeSecret ok hl) ho hr (fun _ => .inl rfl)
    · exact inv_complete (registersOk_countTime ok) ho hr (fun _ => .inl rfl)
    · exact inv_complete (registersOk_packCounter ok) ho hr (fun _ => .inl rfl)
    · exact inv_complete (registersOk_truncateDigest ok) ho hr (fun _ => .inl rfl)
    · exact inv_complete (registersOk_viewSeconds ok) ho hr (fun _ => .inl rfl)
    · exact inv_complete (registersOk_viewRatio ok) ho hr (fun _ => .inl rfl)
  · exact inv_hmacRequest ok hj (.inl hi)
  · have ok' := registersOk_packCounter (registersOk_countTime (registersOk_decodeSecret ok hl))
    exact inv_hmacRequest ok' { hj with } (.inr hi)
  · exact inv_complete ok ho hr (by simp [hf])
  · exact inv_complete (registersOk_setSentinel ok) ho hr (by simp [hf])

/-- A response that is admitted completes the waiting command (R85, R97). -/
theorem respond_next {s t : State} {a : Answer} (ho : s.outstanding = true) (h : respond a s = .next t) :
    t = finishHmac a (takeResponse s) ∨ t = finishGenerate a (takeResponse s) := by
  rcases respond_cases a s with ⟨hn, _⟩ | ⟨_, _, hr⟩ | ⟨_, _, hr⟩ | ⟨_, _, hr⟩
  · rw [ho] at hn; cases hn
  · exact .inl (Outcome.next.inj (h.symm.trans hr))
  · exact .inr (Outcome.next.inj (h.symm.trans hr))
  · rw [hr] at h; cases h

theorem inv_respond {s t : State} {a : Answer} (h : s.Inv) (ho : s.outstanding = true) (hr : respond a s = .next t) :
    t.Inv := by
  have ok : RegistersOk (takeResponse s) := { h.registersOk with }
  rcases respond_next ho hr with rfl | rfl
  · cases a with
    | ok d => exact inv_complete (registersOk_zeroize (registersOk_setDigest ok d)) rfl rfl (fun _ => .inl rfl)
    | unavailable => exact inv_complete (registersOk_zeroize ok) rfl rfl (fun _ => .inr rfl)
  · cases a with
    | ok d =>
      have ok' := registersOk_truncateDigest (registersOk_setDigest ok d)
      exact inv_complete (registersOk_zeroize ok') rfl rfl (fun _ => .inl rfl)
    | unavailable => exact inv_complete (registersOk_zeroize (registersOk_setSentinel ok)) rfl rfl (fun _ => .inr rfl)

theorem inv_step {s t : State} (h : s.Inv) (hst : step s = .next t) : t.Inv := by
  cases step_effect hst with
  | quiet hq => exact inv_quiet h hq
  | exec u i hq hm hp hc he => exact inv_exec (inv_quiet h hq) (hq.phase.trans hp) (hq.cur.trans hc) he
  | response u a hq ha ho hr => exact inv_respond (inv_quiet h hq) (hq.outstanding.trans ho) hr
  | dropped u off v ops rest hq hi hh hw hp ht => exact ht ▸ inv_dropWrite (inv_quiet h hq)
  | accepted u w hq ha ht => exact ht ▸ inv_accept (inv_quiet h hq) (hq.phase.trans ha.1) w
  | written u v f hq hp hf ht => exact ht ▸ inv_inputWrite (inv_quiet h hq) (hq.secretCap ▸ hf)
  | reset u hq hr ht => exact ht ▸ inv_applyReset (inv_quiet h hq)

/-- Settles O7: the invariant holds after each effect a step can have (`step_effect`). -/
theorem stepKeepsInvariant : Obligations.StepKeepsInvariant := fun _ _ => inv_step

end Sys2Proof.Machine
end

section
/-! PROOFS. STATUS and PHASE: what Accept, a completion, an EXEC step, a response and a step leave in them. -/

namespace Sys2Proof.Machine

open Host (Outcome)
open Sys2Proof.Spec

/-! ### Accept and Complete -/

theorem accept_cmd_status {w : Word} {i : Instr} (h : decodeWord w = .cmd i) (s : State) :
    (accept w s).status = (s.status.offered (opcodeBits w)).started := by
  rw [accept_cmd h]
  unfold acceptInstr
  split <;> rfl

theorem accept_illegal_status {w : Word} {r : Reject} (h : decodeWord w = .illegal r) (s : State) :
    (accept w s).status = (s.status.offered (opcodeBits w)).completed .illegalCmd := by
  rw [accept_illegal h]
  rfl

theorem accept_cmd_phase {w : Word} {i : Instr} (h : decodeWord w = .cmd i) (s : State) :
    (accept w s).phase = .exec := by
  rw [accept_cmd h]
  rfl

theorem accept_illegal_phase {w : Word} {r : Reject} (h : decodeWord w = .illegal r) (s : State) :
    (accept w s).phase = .idle := by
  rw [accept_illegal h]
  rfl

/-- Accept of any word clears OVR and records the opcode (R20, R21). -/
theorem accept_flags (w : Word) (s : State) :
    (accept w s).status.ovr = false ∧ (accept w s).status.lastop = w.extractLsb' 0 8 := by
  cases hd : decodeWord w with
  | cmd i => rw [accept_cmd_status hd]; exact ⟨rfl, rfl⟩
  | illegal r => rw [accept_illegal_status hd]; exact ⟨rfl, rfl⟩

theorem accept_secretCap (w : Word) (s : State) : (accept w s).secretCap = s.secretCap := by
  cases hd : decodeWord w with
  | cmd i => rw [accept_cmd hd]; unfold acceptInstr; split <;> rfl
  | illegal r => rw [accept_illegal hd]; rfl

theorem completed_complete (e : Err) (s : State) : Completed (errCode e) (complete e s) := ⟨rfl, rfl, rfl, rfl, rfl⟩

/-- A write of an input leaves STATUS, PHASE and SECRET_CAP. -/
theorem InputWrite.frame {cap : Nat} {v : Word} {f : State → State} (h : InputWrite cap v f) (s : State) :
    (f s).status = s.status ∧ (f s).phase = s.phase ∧ (f s).secretCap = s.secretCap := by
  rcases h with rfl | rfl | rfl | ⟨w, _, rfl⟩ <;> exact ⟨rfl, rfl, rfl⟩

/-! ### Frames of the EXEC step and of a response -/

/-- What no command writes: the inputs, the ports, OVR and LASTOP (R62). -/
structure CommandFrame (s t : State) : Prop where
  inputs : SameInputs s t
  ports : SamePorts s t
  flags : SameFlags s t

theorem exec_frame {i : Instr} {s t : State} (h : exec i s = .next t) : CommandFrame s t := by
  rcases exec_cases i s with ⟨u, hx, hu⟩ | ⟨_, hx⟩ | ⟨_, _, hx⟩ | ⟨_, _, hx⟩ | ⟨_, _, hx⟩ <;>
    obtain rfl := Outcome.next.inj (h.symm.trans hx)
  case inl =>
    rcases hu with ⟨_, _, rfl⟩ | ⟨_, rfl⟩ | ⟨_, rfl⟩ | ⟨_, rfl⟩ | ⟨_, rfl⟩ | ⟨_, rfl⟩
    all_goals exact ⟨⟨rfl, rfl, rfl, rfl, rfl⟩, ⟨rfl, rfl, rfl, rfl, rfl, rfl⟩, ⟨rfl, rfl⟩⟩
  all_goals exact ⟨⟨rfl, rfl, rfl, rfl, rfl⟩, ⟨rfl, rfl, rfl, rfl, rfl, rfl⟩, ⟨rfl, rfl⟩⟩

theorem respond_frame {s t : State} {a : Answer} (ho : s.outstanding = true) (h : respond a s = .next t) :
    CommandFrame s t := by
  rcases respond_next ho h with rfl | rfl <;> cases a
  all_goals exact ⟨⟨rfl, rfl, rfl, rfl, rfl⟩, ⟨rfl, rfl, rfl, rfl, rfl, rfl⟩, ⟨rfl, rfl⟩⟩

/-- An admitted response completes the command with code 0, or 1 for UNAVAILABLE (R85, R98, R104). -/
theorem respond_completed {s t : State} {a : Answer} (ho : s.outstanding = true) (h : respond a s = .next t) :
    Completed (if a = .unavailable then 1 else 0) t := by
  rcases respond_next ho h with rfl | rfl <;> cases a
  all_goals exact ⟨rfl, rfl, rfl, rfl, rfl⟩

/-! ### What a step leaves in STATUS -/

/-- LASTOP and OVR stay but for an acceptance, a reset and, for OVR, a dropped write. -/
theorem step_flags {s t : State} (h : step s = .next t) :
    ((accepts s ∨ resets s) ∧ t.status.ovr = false) ∨
    (t.status.lastop = s.status.lastop ∧ t.status.ovr = s.status.ovr) ∨
    (t.status.lastop = s.status.lastop ∧ t.status.ovr = true ∧ s.phase ≠ .idle ∧
      ∃ off v ops rest, s.inputs = .host :: rest ∧ s.host = .write off v :: ops ∧
        writable s.secretCap (busAddr off)) := by
  cases step_effect h with
  | quiet hq => rw [hq.status]; exact .inr (.inl ⟨rfl, rfl⟩)
  | exec u i hq hm hp hc he =>
    obtain ⟨hovr, hlast⟩ := (exec_frame he).flags
    rw [hovr, hlast, hq.status]
    exact .inr (.inl ⟨rfl, rfl⟩)
  | response u a hq _ ho hr =>
    obtain ⟨hovr, hlast⟩ := (respond_frame (hq.outstanding.trans ho) hr).flags
    rw [hovr, hlast, hq.status]
    exact .inr (.inl ⟨rfl, rfl⟩)
  | dropped u off v ops rest hq hi hh hw hp ht =>
    subst ht
    exact .inr (.inr ⟨by rw [← hq.status]; rfl, rfl, hp, off, v, ops, rest, hi, hh, hw⟩)
  | accepted u w hq ha ht => exact .inl ⟨.inl ha, ht ▸ (accept_flags w u).1⟩
  | written u v f hq hp hf ht =>
    obtain ⟨hst, _, _⟩ := hf.frame u
    rw [ht, hst, hq.status]
    exact .inr (.inl ⟨rfl, rfl⟩)
  | reset u hq hr ht => subst ht; exact .inl ⟨.inr hr, rfl⟩

/-- While the core is idle a step that is neither an acceptance nor a reset leaves STATUS and PHASE. -/
theorem step_idle_status {s t : State} (hinv : s.Inv) (hp : s.phase = .idle) (h : step s = .next t) (ha : ¬ accepts s)
    (hr : ¬ resets s) : t.status = s.status ∧ t.phase = .idle := by
  cases step_effect h with
  | quiet hq => exact ⟨hq.status, hq.phase.trans hp⟩
  | exec u i hq hm hp' hc he => simp [hp] at hp'
  | response u a hq _ ho hr => simp [hinv.outstandingIff.1 ho] at hp
  | dropped u off v ops rest hq hi hh hw hp' ht => exact absurd hp hp'
  | accepted u w hq ha' ht => exact absurd ha' ha
  | written u v f hq _ hf ht =>
    obtain ⟨hst, hph, _⟩ := hf.frame u
    rw [ht, hst, hph]
    exact ⟨hq.status, hq.phase.trans hp⟩
  | reset u hq hr' ht => exact absurd hr' hr

/-- SECRET_CAP is hardwired: no step changes it. -/
theorem step_secretCap {s t : State} (h : step s = .next t) : t.secretCap = s.secretCap := by
  cases step_effect h with
  | quiet hq => exact hq.secretCap
  | exec u i hq hm hp hc he => exact (exec_frame he).inputs.secretCap.trans hq.secretCap
  | response u a hq _ ho hr => exact (respond_frame (hq.outstanding.trans ho) hr).inputs.secretCap.trans hq.secretCap
  | dropped u off v ops rest hq hi hh hw hp ht => exact ht ▸ hq.secretCap
  | accepted u w hq ha ht => rw [ht, accept_secretCap, hq.secretCap]
  | written u v f hq hp hf ht =>
    obtain ⟨_, _, hcap⟩ := hf.frame u
    rw [ht, hcap, hq.secretCap]
  | reset u hq hr ht => rw [ht, applyReset_secretCap, hq.secretCap]

/-! ### The statements on STATUS -/

/-- STATUS reads as its word in every phase. -/
theorem memRead_status (s : State) : memRead s 0x004 = statusWord s.status := memRead_exact (r := .status) rfl rfl

/-- The layout of STATUS (R15). -/
theorem statusWord_fields (st : Status) :
    (statusWord st).getLsbD 0 = st.busy ∧ (statusWord st).getLsbD 1 = st.done ∧
    (statusWord st).extractLsb' 2 3 = st.err ∧ (statusWord st).getLsbD 5 = st.invfmt ∧
    (statusWord st).getLsbD 6 = st.ovr ∧ (statusWord st).extractLsb' 8 8 = st.lastop ∧
    (statusWord st).getLsbD 7 = false ∧ (statusWord st).extractLsb' 16 16 = 0 := by
  simp only [statusWord, BitVec.getLsbD_append, BitVec.getLsbD_ofBool, BitVec.extractLsb'_append_eq_ite]
  simp

/-- Settles O29: the equality is a clause of the invariant, and Accept and Complete write the bit. -/
theorem busyReadsPhase : Obligations.BusyReadsPhase :=
  ⟨fun s h => by rw [memRead_status, (statusWord_fields _).1]; exact h.busyIff,
   fun s w i h => by rw [accept_cmd_status h]; rfl,
   fun _ _ => rfl,
   fun s w r h => by rw [accept_illegal_status h]; rfl⟩

/-- Settles O30: with DONE = 1 the core is idle, where only an acceptance or a reset writes STATUS. -/
theorem doneMarksCompletion : Obligations.DoneMarksCompletion := by
  refine ⟨fun s w i h => by rw [accept_cmd_status h]; rfl, fun _ _ => rfl, fun _ => ⟨rfl, rfl⟩, fun _ _ => rfl, ?_⟩
  intro s t hinv h hd ha hr
  have hp : s.phase = .idle := not_not.1 fun hp => by simpa [hinv.doneNotBusy hd] using hinv.busyIff.2 hp
  rw [(step_idle_status hinv hp h ha hr).1, hd]

/-- Settles O31: that codes 4 to 7 never appear is a clause of the invariant, which every step keeps. -/
theorem errHoldsTheCompletionCode : Obligations.ErrHoldsTheCompletionCode := by
  refine ⟨fun _ _ => rfl, fun s w i h => by rw [accept_cmd_status h]; rfl, fun s t hinv h => ?_⟩
  have he := (inv_step hinv h).errProduced
  bv_omega

/-- Settles O32: what a step can do to OVR (`step_flags`). -/
theorem ovrStaysUntilAcceptance : Obligations.OvrStaysUntilAcceptance := by
  refine ⟨fun s w => (accept_flags w s).1, fun s off v hp hw => by rw [memWrite_busy hw hp]; rfl, ?_, ?_⟩
  · intro s t h hs ha hr
    rcases step_flags h with ⟨hn, _⟩ | ⟨_, ht⟩ | ⟨_, ht, _⟩
    · exact absurd hn (not_or.2 ⟨ha, hr⟩)
    · rw [ht, hs]
    · exact ht
  · intro s t h hs ht
    rcases step_flags h with ⟨_, hn⟩ | ⟨_, hn⟩ | ⟨_, _, hw⟩
    · simp [hn] at ht
    · simp [hn, hs] at ht
    · exact hw

/-- Settles O33: what a step can do to LASTOP (`step_flags`). -/
theorem lastopKeepsTheOfferedOpcode : Obligations.LastopKeepsTheOfferedOpcode := by
  refine ⟨fun s w => (accept_flags w s).2, fun s t h ha hr => ?_⟩
  rcases step_flags h with ⟨hn, _⟩ | ⟨hl, _⟩ | ⟨hl, _⟩
  · exact absurd hn (not_or.2 ⟨ha, hr⟩)
  · exact hl
  · exact hl

/-- Settles O17: STATUS has no result bits, so it reads as its word in every phase. -/
theorem statusReadsItsFields : Obligations.StatusReadsItsFields := by
  intro s v
  rw [memRead_status]
  obtain ⟨hbusy, hdone, herr, hfmt, hovr, hlast, h7, hhigh⟩ := statusWord_fields s.status
  exact ⟨hbusy, hdone, herr, hfmt, hovr, hlast, h7, hhigh, rfl⟩

end Sys2Proof.Machine
end

section
/-! PROOFS. CONFIG and the input registers SECRET_LEN and TS_OVR over the bus. -/

namespace Sys2Proof.Machine

open Sys2Proof.Spec

theorem memRead_config (s : State) : memRead s 0x008 = configWord s.secretCap := memRead_exact (r := .config) rfl rfl

theorem memRead_secretLen (s : State) : memRead s 0x00C = s.secretLen.setWidth 32 :=
  memRead_exact (r := .secretLen) rfl rfl

theorem memRead_tsOvrLo (s : State) : memRead s 0x010 = loWord s.tsOvr := memRead_exact (r := .tsOvrLo) rfl rfl

theorem memRead_tsOvrHi (s : State) : memRead s 0x014 = hiWord s.tsOvr := memRead_exact (r := .tsOvrHi) rfl rfl

theorem memWrite_secretLen (v : Word) (s : State) : memWrite 0x00C v s = writeInput (setSecretLen v) s := rfl

theorem memWrite_tsOvrLo (v : Word) (s : State) : memWrite 0x010 v s = writeInput (setTsOvrLo v) s := rfl

theorem memWrite_tsOvrHi (v : Word) (s : State) : memWrite 0x014 v s = writeInput (setTsOvrHi v) s := rfl

/-- The layout of CONFIG (R22). -/
theorem configWord_fields {cap : Nat} (h : Config.legalCap cap = true) :
    (configWord cap).extractLsb' 0 8 = 30 ∧ (configWord cap).extractLsb' 8 4 = 6 ∧
    (configWord cap).extractLsb' 12 4 = 1 ∧ ((configWord cap).extractLsb' 16 11).toNat = cap ∧
    (configWord cap).extractLsb' 27 5 = 0 := by
  have hc : cap < 2048 := (legalCap_le h).trans_lt (by decide)
  simp only [configWord, BitVec.extractLsb'_append_eq_ite]
  simp [Nat.mod_eq_of_lt hc]

/-- Settles O18: the layout of CONFIG, and that no step writes SECRET_CAP. -/
theorem configIsHardwired : Obligations.ConfigIsHardwired := by
  refine ⟨fun s v hcap => ?_, fun s hcap => ?_, fun s t h => ?_⟩
  · obtain ⟨hstep, hdigits, halg, hsec, hzero⟩ := configWord_fields hcap
    rw [memRead_config]
    exact ⟨hstep, hdigits, halg, hsec, hzero, rfl⟩
  · rw [memRead_config, hcap]
    decide
  · rw [memRead_config, memRead_config, step_secretCap h]
    exact ⟨rfl, rfl⟩

theorem setWidth_low_bits (v : Word) : (v.extractLsb' 0 11).setWidth 32 = v &&& 0x7FF := by
  apply BitVec.eq_of_toNat_eq
  have h := Nat.and_two_pow_sub_one_eq_mod v.toNat 11
  simp only [BitVec.toNat_setWidth, BitVec.extractLsb'_toNat, BitVec.toNat_and]
  simp at h ⊢
  omega

/-- DECODE and GENERATE of a secret above SECRET_CAP complete with ERR = 3 (R103). -/
theorem exec_tooLong {s : State} {i : Instr} (h : s.secretCap < s.secretLen.toNat)
    (hi : i = .decode ∨ i = .generate ∨ i = .generateTs) : ∃ t, exec i s = .next t ∧ Completed 3 t := by
  have hl := secretTooLong_eq_true.2 h
  have generate : Completed 3 (generateStages s) := by
    rw [generateStages_tooLong hl]
    exact completed_complete .secretTooLong _
  rcases hi with rfl | rfl | rfl
  · exact ⟨_, exec_decode_tooLong hl, completed_complete .secretTooLong s⟩
  · exact ⟨_, exec_generate s, generate⟩
  · exact ⟨_, exec_generateTs s, generate⟩

/-- Settles O19. A length above SECRET_CAP fails the commands that read the secret (`exec_tooLong`). -/
theorem secretLenTakesElevenBits : Obligations.SecretLenTakesElevenBits := by
  refine ⟨fun s v hp => ?_, fun s v hp => ?_, fun s i h hi => exec_tooLong h hi⟩
  · rw [memRead_secretLen, memWrite_secretLen, writeInput_idle _ hp]
    exact ⟨rfl, setWidth_low_bits v⟩
  · rw [memWrite_secretLen, writeInput_busy _ hp]
    rfl

/-- Settles O20: each half of TS_OVR is one part of an append. -/
theorem tsOvrIsTwoWords : Obligations.TsOvrIsTwoWords := by
  intro s v
  refine ⟨fun hp => ?_, memRead_tsOvrLo s, memRead_tsOvrHi s⟩
  have hlo : memWrite 0x010 v s = setTsOvrLo v s := (memWrite_tsOvrLo v s).trans (writeInput_idle _ hp)
  have hhi : memWrite 0x014 v s = setTsOvrHi v s := (memWrite_tsOvrHi v s).trans (writeInput_idle _ hp)
  refine ⟨?_, ?_, ?_⟩
  · rw [hlo]
    exact ⟨BitVec.extractLsb'_append_eq_right, BitVec.extractLsb'_append_eq_left⟩
  · rw [hhi]
    exact ⟨BitVec.extractLsb'_append_eq_left, BitVec.extractLsb'_append_eq_right⟩
  · rintro off (rfl | rfl)
    · rw [hlo]; rfl
    · rw [hhi]; rfl

end Sys2Proof.Machine
end

section
/-! PROOFS. The register map against the words and the free bits the statements write out (R40, R43). -/

namespace Sys2Proof.Machine

open Sys2Proof.Spec

/-! ### The map past the named registers -/

theorem busAddr_aligned (off : Offset) : ∃ k, busAddr off = 4 * k := by
  refine Nat.dvd_of_mod_eq_zero ?_
  rw [busAddr, BitVec.toNat_and]
  exact (Nat.and_mod_two_pow (n := 2)).trans (by simp)

theorem regAt_window {a : Nat} (h : 0x074 ≤ a) :
    regAt a =
      if 0x400 ≤ a ∧ a < 0x800 then .secretWin ((a - 0x400) / 4)
      else if 0x800 ≤ a ∧ a < 0xA80 then .keyWin ((a - 0x800) / 4)
      else .reserved := by
  unfold regAt
  split
  case h_26 => rfl
  all_goals omega

theorem freeBits_keyWindow {cap a : Nat} (h : 0x800 ≤ a) (h' : a ≤ 0xA7C) :
    freeBits cap a =
      ofLanes (keyLaneMask cap (a - 0x800 - a % 4)) (keyLaneMask cap (a - 0x800 - a % 4 + 1))
        (keyLaneMask cap (a - 0x800 - a % 4 + 2)) (keyLaneMask cap (a - 0x800 - a % 4 + 3)) := by
  unfold freeBits
  split
  case h_20 => exact if_pos ⟨h, h'⟩
  all_goals omega

theorem freeBits_past {cap a : Nat} (h : 0x074 ≤ a) (h' : ¬ (0x800 ≤ a ∧ a ≤ 0xA7C)) : freeBits cap a = 0 := by
  unfold freeBits
  split
  case h_20 => exact if_neg h'
  all_goals omega

theorem mapWord_secretWindow {s : State} {a : Nat} (h : inSecretWindow s.secretCap a) :
    mapWord s a =
      ofLanes (readChar s (a - 0x400 - a % 4)) (readChar s (a - 0x400 - a % 4 + 1)) (readChar s (a - 0x400 - a % 4 + 2))
        (readChar s (a - 0x400 - a % 4 + 3)) := by
  have h4 := h.1
  unfold mapWord
  split
  case h_25 => exact if_pos h
  all_goals omega

theorem mapWord_keyWindow {s : State} {a : Nat} (h : 0x800 ≤ a) (h' : a ≤ 0xA7C) :
    mapWord s a =
      ofLanes (keyByte s (a - 0x800 - a % 4)) (keyByte s (a - 0x800 - a % 4 + 1)) (keyByte s (a - 0x800 - a % 4 + 2))
        (keyByte s (a - 0x800 - a % 4 + 3)) := by
  unfold mapWord
  split
  case h_25 => rw [if_neg (by omega)]; exact if_pos ⟨h, h'⟩
  all_goals omega

theorem mapWord_past {s : State} {a : Nat} (h : 0x074 ≤ a) (hs : ¬ inSecretWindow s.secretCap a)
    (hk : ¬ (0x800 ≤ a ∧ a ≤ 0xA7C)) : mapWord s a = 0 := by
  unfold mapWord
  split
  case h_25 => rw [if_neg hs]; exact if_neg hk
  all_goals omega

/-! ### The model's map is the statements' -/

theorem resultBits_regAt (cap k : Nat) : resultBits cap (regAt (4 * k)) = freeBits cap (4 * k) := by
  by_cases hlow : 4 * k < 0x074
  · have hk : k < 29 := by omega
    interval_cases k <;> rfl
  · have hw : 0x074 ≤ 4 * k := by omega
    rw [regAt_window hw]
    by_cases hkey : 0x800 ≤ 4 * k ∧ 4 * k ≤ 0xA7C
    · obtain ⟨h, h'⟩ := hkey
      have hi : 4 * ((4 * k - 0x800) / 4) = 4 * k - 0x800 - 4 * k % 4 := by omega
      rw [if_neg (by omega), if_pos (by omega), freeBits_keyWindow h h', ← hi]
      rfl
    · rw [freeBits_past hw hkey]
      split
      · rfl
      · rw [if_neg (by omega)]; rfl

theorem setWidth_eq_zero_append {v : Nat} (w : Nat) (x : BitVec v) : x.setWidth (w + v) = 0#w ++ x := by
  rw [BitVec.setWidth_eq_append (by omega)]
  ext i hi
  simp [BitVec.getElem_append]

theorem regWord_regAt (s : State) (k : Nat) : regWord s (regAt (4 * k)) = mapWord s (4 * k) := by
  by_cases hlow : 4 * k < 0x074
  · have hk : k < 3 ∨ k = 3 ∨ (4 ≤ k ∧ k < 12) ∨ k = 12 ∨ k = 13 ∨ k = 14 ∨ k = 15 ∨ (16 ≤ k ∧ k < 18) ∨ k = 18 ∨
        (19 ≤ k ∧ k < 29) := by omega
    rcases hk with h | rfl | ⟨h, h'⟩ | rfl | rfl | rfl | rfl | ⟨h, h'⟩ | rfl | ⟨h, h'⟩
    · interval_cases k <;> rfl
    · exact setWidth_eq_zero_append 21 s.secretLen
    · interval_cases k <;> rfl
    · exact setWidth_eq_zero_append 22 s.keyLen
    · exact setWidth_eq_zero_append 28 s.offset
    · exact setWidth_eq_zero_append 1 s.bincode
    · exact setWidth_eq_zero_append 12 s.code
    · interval_cases k <;> rfl
    · exact setWidth_eq_zero_append 27 s.secsRem
    · interval_cases k <;> rfl
  · have hw : 0x074 ≤ 4 * k := by omega
    rw [regAt_window hw]
    by_cases hsec : 0x400 ≤ 4 * k ∧ 4 * k < 0x800
    · rw [if_pos hsec]
      by_cases hm : inSecretWindow s.secretCap (4 * k)
      · have hi : 4 * ((4 * k - 0x400) / 4) = 4 * k - 0x400 - 4 * k % 4 := by omega
        rw [mapWord_secretWindow hm, ← hi]
        exact if_pos (decide_eq_true hm.2.2)
      · rw [mapWord_past hw hm (by omega)]
        exact if_neg fun h => hm ⟨hsec.1, hsec.2, of_decide_eq_true h⟩
    · rw [if_neg hsec]
      by_cases hkey : 0x800 ≤ 4 * k ∧ 4 * k ≤ 0xA7C
      · have hi : 4 * ((4 * k - 0x800) / 4) = 4 * k - 0x800 - 4 * k % 4 := by omega
        rw [if_pos (by omega), mapWord_keyWindow hkey.1 hkey.2, ← hi]
        rfl
      · rw [if_neg (by omega), mapWord_past hw (fun h => hsec ⟨h.1, h.2.1⟩) hkey]
        rfl

theorem resultBits_regOf (cap : Nat) (off : Offset) : resultBits cap (regOf off) = freeBits cap (busAddr off) := by
  obtain ⟨k, hk⟩ := busAddr_aligned off
  rw [regOf_eq_regAt, hk, resultBits_regAt]

theorem regWord_regOf (s : State) (off : Offset) : regWord s (regOf off) = mapWord s (busAddr off) := by
  obtain ⟨k, hk⟩ := busAddr_aligned off
  rw [regOf_eq_regAt, hk, regWord_regAt]

/-! ### Reads -/

/-- A read while PHASE is not IDLE: the result bits of the free value, the other bits of the register (R40). -/
theorem readReg_busy {s : State} (h : s.phase ≠ .idle) (r : BusReg) :
    readReg s r = (regWord s r &&& ~~~ resultBits s.secretCap r) |||
      (Config.freeWord s.draws &&& resultBits s.secretCap r) := by
  unfold readReg
  split
  · rfl
  · next hf =>
    have h0 : resultBits s.secretCap r = 0 := by simpa [readsFree, h] using hf
    rw [h0]
    exact BitVec.and_allOnes.symm.trans (by simp)

theorem freeBits_exact {cap a : Nat}
    (h : a ∈ [0x000, 0x004, 0x008, 0x00C, 0x010, 0x014] ∨ inSecretWindow cap a) : freeBits cap a = 0 := by
  rcases h with h | ⟨h, h', _⟩
  · fin_cases h <;> rfl
  · exact freeBits_past (by omega) (by omega)

theorem readsFree_regOf (s : State) (off : Offset) :
    readsFree s (regOf off) = true ↔ s.phase ≠ .idle ∧ freeBits s.secretCap (busAddr off) ≠ 0 := by
  rw [← resultBits_regOf]
  simp [readsFree]

/-- Settles O25: the map of R43 and the result bits of R40, offset by offset, then one read. -/
theorem resultReadsAreFreeWhileBusy : Obligations.ResultReadsAreFreeWhileBusy := by
  refine ⟨fun s off hp => ?_, fun s off h => ?_, fun s off hp => ?_, fun s off => ⟨rfl, ?_⟩⟩
  · rw [memRead_idle rfl hp, regWord_regOf]
  · rw [memRead_exact rfl (by rw [resultBits_regOf, freeBits_exact h]), regWord_regOf]
  · rw [memRead, readReg_busy hp, resultBits_regOf, regWord_regOf]
    constructor
    · ext i hi; simp; grind
    · ext i hi; simp; grind
  · simp only [hostRead_draws, readsFree_regOf]

end Sys2Proof.Machine
end

section
/-! PROOFS. PHASE moves as R39 lists it. -/

namespace Sys2Proof.Machine

open Host (Outcome)
open Sys2Proof.Spec

/-! ### The EXEC step -/

/-- Where an EXEC step leaves PHASE, with the request that is outstanding or the code of the completion. -/
theorem exec_ends {i : Instr} {s t : State} (h : exec i s = .next t) :
    ((i = .hmac ∨ (i = .generate ∨ i = .generateTs) ∧ s.secretLen.toNat ≤ s.secretCap) ∧ t.phase = .wait) ∨
    ((i = .decode ∨ i = .generate ∨ i = .generateTs) ∧ s.secretCap < s.secretLen.toNat ∧ Completed 3 t) ∨
    (i ≠ .hmac ∧ i ≠ .generate ∧ i ≠ .generateTs ∧ (i = .decode → s.secretLen.toNat ≤ s.secretCap) ∧
      Completed 0 t) := by
  rcases exec_cases i s with ⟨u, hx, hu⟩ | ⟨hi, hx⟩ | ⟨hi, hl, hx⟩ | ⟨hl, hi, hx⟩ | ⟨hl, hi, hx⟩ <;>
    obtain rfl := Outcome.next.inj (h.symm.trans hx)
  · have hc : Completed 0 (complete .none u) := completed_complete .none u
    rcases hu with ⟨rfl, hl, _⟩ | ⟨rfl | rfl, _⟩ | ⟨rfl, _⟩ | ⟨rfl, _⟩ | ⟨rfl | rfl, _⟩ | ⟨rfl | rfl, _⟩
    · exact .inr (.inr ⟨by simp, by simp, by simp, fun _ => secretTooLong_eq_false.1 hl, hc⟩)
    all_goals exact .inr (.inr ⟨by simp, by simp, by simp, by simp, hc⟩)
  · exact .inl ⟨.inl hi, rfl⟩
  · exact .inl ⟨.inr ⟨hi, secretTooLong_eq_false.1 hl⟩, rfl⟩
  · exact .inr (.inl ⟨.inl hi, secretTooLong_eq_true.1 hl, completed_complete .secretTooLong s⟩)
  · exact .inr (.inl ⟨.inr hi, secretTooLong_eq_true.1 hl, completed_complete .secretTooLong _⟩)

theorem phaseAfter_core {s : State} {i : Instr} (hm : coreMoves s) (hp : s.phase = .exec) (hc : s.cur = some i) :
    phaseAfter s =
      if i = .hmac ∨ (i = .generate ∨ i = .generateTs) ∧ s.secretLen.toNat ≤ s.secretCap then .wait else .idle := by
  have flip : (if s.secretCap < s.secretLen.toNat then Phase.idle else .wait) =
      if s.secretLen.toNat ≤ s.secretCap then .wait else .idle := by
    by_cases h : s.secretLen.toNat ≤ s.secretCap
    · rw [if_neg (not_lt.2 h), if_pos h]
    · rw [if_pos (not_le.1 h), if_neg h]
  rcases hm with hi | ⟨rest, hi⟩ <;> cases i <;> simp [phaseAfter, hi, hp, hc, flip]

theorem phaseAfter_core_stays {s : State} (hm : coreMoves s) (hp : s.phase ≠ .exec) : phaseAfter s = s.phase := by
  rcases hm with hi | ⟨rest, hi⟩ <;> cases h : s.phase <;> simp_all [phaseAfter]

theorem coreStep_phase {s u t : State} (hinv : s.Inv) (hq : Quiet s u) (hm : coreMoves s) (h : coreStep u = .next t) :
    t.phase = phaseAfter s := by
  by_cases hp : s.phase = .exec
  · obtain ⟨i, hr⟩ := hinv.running (by simp [hp])
    rw [coreStep_exec (hq.phase.trans hp) (hq.cur.trans hr.cur)] at h
    rw [phaseAfter_core hm hp hr.cur, ← hq.secretLen, ← hq.secretCap]
    rcases exec_ends h with ⟨hi, ht⟩ | ⟨hi, hl, ht⟩ | ⟨h1, h2, h3, _, ht⟩
    · rw [if_pos hi, ht]
    · rw [if_neg (by rintro (rfl | ⟨_, hl'⟩) <;> [simp at hi; omega]), ht.phase]
    · rw [if_neg (by simp [h1, h2, h3]), ht.phase]
  · rw [coreStep_notExec (hq.phase.symm ▸ hp)] at h
    rw [phaseAfter_core_stays hm hp, ← Outcome.next.inj h, hq.phase]

/-! ### The host's turn and the provider's response -/

theorem memWrite_phase (off : Offset) (w : Word) (s : State) :
    (memWrite off w s).phase =
      if s.phase = .idle ∧ busAddr off = 0x000 ∧ w ∈ commandWords.map Prod.fst then .exec else s.phase := by
  by_cases hw : writable s.secretCap (busAddr off)
  · by_cases hp : s.phase = .idle
    · by_cases h0 : busAddr off = 0x000
      · rw [memWrite_cmd h0 hp]
        cases hd : decodeWord w with
        | cmd i => rw [accept_cmd_phase hd, if_pos ⟨hp, h0, mem_commandWords_iff.2 ⟨i, hd⟩⟩]
        | illegal r =>
          have hn : w ∉ commandWords.map Prod.fst := by simp [mem_commandWords_iff, hd]
          rw [accept_illegal_phase hd, if_neg (fun h => hn h.2.2), hp]
      · obtain ⟨f, hf, hm⟩ := memWrite_input hw h0 hp w
        obtain ⟨_, hph, _⟩ := hf.frame s
        rw [if_neg (by simp [h0]), hm, hph]
    · rw [if_neg (by simp [hp]), memWrite_busy hw hp]
      rfl
  · have h0 : busAddr off ≠ 0x000 := fun h => hw (.inl h)
    rw [if_neg (by simp [h0]), memWrite_unwritable hw]

theorem hostTurn_phase {s : State} {rest : List Move} (hi : s.inputs = .host :: rest) :
    (hostTurn (popped s)).phase = phaseAfter s := by
  cases hh : s.host with
  | nil => rw [hostTurn_nil (s := popped s) hh]; simp only [phaseAfter, hi, hh, popped]
  | cons op ops =>
    cases op with
    | read off => rw [hostTurn_read (s := popped s) hh]; simp only [phaseAfter, hi, hh, popped, hostRead_phase]
    | write off w =>
      rw [hostTurn_write (s := popped s) hh, memWrite_phase]
      simp only [phaseAfter, hi, hh, popped]
    | poll => rw [hostTurn_poll (s := popped s) hh]; simp only [phaseAfter, hi, hh, popped, hostRead_phase]

theorem respond_phase {s t : State} {a : Answer} (hinv : s.Inv) (h : respond a s = .next t) :
    t.phase = if s.phase = .wait then .idle else s.phase := by
  by_cases hp : s.phase = .wait
  · rw [if_pos hp, (respond_completed (hinv.outstandingIff.2 hp) h).phase]
  · rw [respond, hinv.outstanding_eq_false hp] at h
    rw [if_neg hp, ← Outcome.next.inj h]

theorem respondHmac_phase {s t : State} (hinv : s.Inv) (h : act .respondHmac s = .next t) :
    t.phase = if s.phase = .wait then .idle else s.phase := by
  cases hr : s.portReq with
  | some r => exact respond_phase hinv (act_respondHmac hr ▸ h)
  | none =>
    have ho : s.outstanding ≠ true := fun ho => by simp [hinv.portAgrees, ho] at hr
    rw [act_respondHmac_none hr] at h
    rw [if_neg (fun hp => ho (hinv.outstandingIff.2 hp)), ← Outcome.next.inj h]

/-! ### One step -/

theorem step_phase {s t : State} (hinv : s.Inv) (h : step s = .next t) : t.phase = phaseAfter s := by
  have hpop := inv_quiet hinv (quiet_popped s)
  cases hi : s.inputs with
  | nil => exact coreStep_phase hinv (.refl s) (.inl hi) (by rw [← h, step_core hi])
  | cons m rest =>
    have hstep : step s = act m (popped s) := by rw [step_move hi, popped, hi, List.tail_cons]
    rw [hstep] at h
    cases m with
    | host => rw [← Outcome.next.inj h]; exact hostTurn_phase hi
    | core => exact coreStep_phase hinv (quiet_popped s) (.inr ⟨rest, hi⟩) h
    | respond a => rw [respond_phase hpop h]; simp only [phaseAfter, hi, popped]
    | respondHmac => rw [respondHmac_phase hpop h]; simp only [phaseAfter, hi, popped]
    | drive now => rw [← Outcome.next.inj h]; simp only [phaseAfter, hi, popped]
    | reset => rw [← Outcome.next.inj h]; simp only [phaseAfter, hi]; rfl

/-- A step that leaves EXEC for IDLE and is no reset is the completion of the current command. -/
theorem step_exec_completes {s t : State} (hinv : s.Inv) (h : step s = .next t) (hp : s.phase = .exec)
    (ht : t.phase = .idle) (hr : ¬ resets s) :
    Completed (if (s.cur = some .decode ∨ s.cur = some .generate ∨ s.cur = some .generateTs) ∧
      s.secretCap < s.secretLen.toNat then 3 else 0) t := by
  cases step_effect h with
  | quiet hq => simp [hq.phase, hp] at ht
  | exec u i hq hm _ hc he =>
    simp only [hc, Option.some.injEq, ← hq.secretLen, ← hq.secretCap]
    rcases exec_ends he with ⟨_, hw⟩ | ⟨hi, hl, hd⟩ | ⟨_, h2, h3, hf, hd⟩
    · simp [hw] at ht
    · rwa [if_pos ⟨hi, hl⟩]
    · rwa [if_neg]
      rintro ⟨rfl | hi | hi, hl⟩
      · exact absurd (hf rfl) (by omega)
      · exact h2 hi
      · exact h3 hi
  | response u a hq _ ho _ => simp [hinv.outstandingIff.1 ho] at hp
  | dropped u off v ops rest hq hi hh hw _ hd => simp [hd, dropWrite, hq.phase, hp] at ht
  | accepted u w hq ha hd => simp [ha.1] at hp
  | written u v f hq hp' hf hd => simp [hp'] at hp
  | reset u hq hr' hd => exact absurd hr' hr

/-- A step that leaves WAIT for IDLE and is no reset is the provider's response, which completes the command. -/
theorem step_wait_completes {s t : State} (h : step s = .next t) (hp : s.phase = .wait) (ht : t.phase = .idle)
    (hr : ¬ resets s) : ∃ a, answers s a ∧ Completed (if a = .unavailable then 1 else 0) t := by
  cases step_effect h with
  | quiet hq => simp [hq.phase, hp] at ht
  | exec u i hq hm hp' hc he => simp [hp'] at hp
  | response u a hq ha ho he => exact ⟨a, ha, respond_completed (hq.outstanding.trans ho) he⟩
  | dropped u off v ops rest hq hi hh hw _ hd => simp [hd, dropWrite, hq.phase, hp] at ht
  | accepted u w hq ha hd => simp [ha.1] at hp
  | written u v f hq hp' hf hd => simp [hp'] at hp
  | reset u hq hr' hd => exact absurd hr' hr

theorem step_host_write {s : State} {off : Offset} {v : Word} {ops : List HostStep} {rest : List Move}
    (hi : s.inputs = .host :: rest) (hh : s.host = .write off v :: ops) :
    step s = .next (memWrite off v { s with host := ops, inputs := rest }) := by
  rw [step_move hi]
  exact congrArg Outcome.next (hostTurn_write (s := { s with inputs := rest }) hh)

/-- An acceptance that leaves the core idle was of an illegal word, and completes with 2 (R102). -/
theorem step_accepts_completes {s t : State} (h : step s = .next t) (ha : accepts s) (ht : t.phase = .idle) :
    Completed 2 t := by
  obtain ⟨hp, off, w, ops, rest, hi, hh, h0⟩ := ha
  rw [step_host_write hi hh, memWrite_cmd (s := { s with host := ops, inputs := rest }) h0 hp] at h
  obtain rfl := Outcome.next.inj h
  cases hd : decodeWord w with
  | cmd i => simp [accept_cmd_phase hd] at ht
  | illegal r => rw [accept_illegal hd]; exact completed_complete .illegalCmd _

/-- Settles O9: PHASE by the agents' moves (`step_phase`), the request by the invariant, and one completion for each way
into IDLE. -/
theorem phaseMovesAsListed : Obligations.PhaseMovesAsListed := by
  intro s t hinv h
  have hinv' := inv_step hinv h
  refine ⟨step_phase hinv h, fun _ hw => ?_, fun hp ht hr => ?_, fun hp ht hr => ?_, fun ha ht => ?_⟩
  · have ho := hinv'.outstandingIff.2 hw
    exact ⟨ho, by rw [hinv'.portAgrees, if_pos ho]; rfl⟩
  · have hc := step_exec_completes hinv h hp ht hr
    exact ⟨hc.done, hc.err⟩
  · obtain ⟨a, ha, hc⟩ := step_wait_completes h hp ht hr
    exact ⟨hc.done, a, ha, hc.err⟩
  · have hc := step_accepts_completes h ha ht
    exact ⟨hc.done, hc.err⟩

end Sys2Proof.Machine
end

section
/-! PROOFS. What an offset reaches, and an access as one step of the machine (R41, R42, R44). -/

namespace Sys2Proof.Machine

open Host (Outcome)
open Sys2Proof.Spec

/-! ### Offsets -/

theorem busAddr_eq (off : Offset) : busAddr off = 4 * (off.toNat / 4) := by
  have shifts : off &&& (0xFFC : Offset) = off >>> 2 <<< 2 := by
    ext i hi
    interval_cases i <;> simp
  have h := off.isLt
  rw [busAddr, shifts, BitVec.toNat_shiftLeft, BitVec.toNat_ushiftRight, Nat.shiftLeft_eq, Nat.shiftRight_eq_div_pow]
  omega

/-- A word-aligned offset reaches the word it names. -/
theorem busAddr_ofNat {a : Nat} (h : a < 0x1000) (h4 : a % 4 = 0) : busAddr (BitVec.ofNat 12 a) = a := by
  rw [busAddr_eq, BitVec.toNat_ofNat]
  omega

theorem regOf_secretWin {w : Nat} (h : w < 256) : regOf (BitVec.ofNat 12 (0x400 + 4 * w)) = .secretWin w := by
  rw [regOf_eq_regAt, busAddr_ofNat (by omega) (by omega), regAt_eq_secretWin]
  omega

theorem regOf_keyWin {w : Nat} (h : w < 160) : regOf (BitVec.ofNat 12 (0x800 + 4 * w)) = .keyWin w := by
  rw [regOf_eq_regAt, busAddr_ofNat (by omega) (by omega), regAt_eq_keyWin]
  omega

/-- The two low bits of an offset are ignored (R44). -/
theorem regOf_aligned (off : Offset) : regOf (off &&& 0xFFC) = regOf off := by
  simp [regOf, BitVec.and_assoc]

theorem memRead_aligned (s : State) (off : Offset) : memRead s (off &&& 0xFFC) = memRead s off := by
  simp only [memRead, regOf_aligned]

theorem memWrite_aligned (off : Offset) (v : Word) (s : State) : memWrite (off &&& 0xFFC) v s = memWrite off v s := by
  simp only [memWrite, regOf_aligned]

/-! ### An access is one step -/

/-- A read in the host's turn changes no register of the core (R41, R51). -/
theorem sameRegisters_hostRead (s : State) (off : Offset) (ops : List HostStep) (rest : List Move) :
    SameRegisters s (hostRead off { s with host := ops, inputs := rest }) :=
  ⟨rfl, rfl, rfl, rfl, rfl, rfl, ⟨rfl, rfl, rfl, rfl, rfl⟩, ⟨rfl, rfl⟩, ⟨rfl, rfl, rfl⟩, ⟨rfl, rfl, rfl, rfl⟩, ⟨rfl, rfl⟩,
    ⟨rfl, rfl⟩⟩

theorem step_host_read {s : State} {off : Offset} {ops : List HostStep} {rest : List Move}
    (hi : s.inputs = .host :: rest) (hh : s.host = .read off :: ops) :
    step s = .next (hostRead off { s with host := ops, inputs := rest }) := by
  rw [step_move hi]
  exact congrArg Outcome.next (hostTurn_read (s := { s with inputs := rest }) hh)

/-- Settles O15: an access depends on its offset through `regOf`, which drops the low bits. -/
theorem accessesIgnoreLowOffsetBits : Obligations.AccessesIgnoreLowOffsetBits := by
  intro s off v ops rest
  refine ⟨(memRead_aligned s off).symm, (memWrite_aligned off v s).symm, fun hi hh => ?_, fun hi hh => ?_⟩
  · rw [step_host_write hi hh, memWrite_aligned]
  · rw [memRead_aligned]
    exact ⟨_, step_host_read hi hh, rfl, sameRegisters_hostRead s off ops rest, rfl, rfl⟩

/-! ### The core's step after an acceptance -/

theorem accept_cmd_cur {w : Word} {i : Instr} (h : decodeWord w = .cmd i) (s : State) : (accept w s).cur = some i := by
  rw [accept_cmd h]
  rfl

theorem accept_inputs (w : Word) (s : State) : (accept w s).inputs = s.inputs := by
  cases hd : decodeWord w with
  | cmd i => rw [accept_cmd hd]; unfold acceptInstr; split <;> rfl
  | illegal r => rw [accept_illegal hd]; rfl

/-- The core's own move in EXEC runs the current command (R39). -/
theorem step_core_exec {s : State} {i : Instr} {rest : List Move} (hp : s.phase = .exec) (hc : s.cur = some i)
    (hi : s.inputs = .core :: rest) : step s = exec i { s with inputs := rest } := by
  rw [step_move hi]
  exact coreStep_exec (s := { s with inputs := rest }) hp hc

theorem withFetchWord_encode (s : State) (i : Instr) :
    s.withFetchWord 32 (encode i).toNat = commandAccepted (encode i) s := by
  rw [State.withFetchWord, Nat.mod_eq_of_lt (encode i).isLt, BitVec.ofNat_toNat, BitVec.setWidth_eq]

/-- Settles O5: an accepted command is current in EXEC, where the core's move runs it (`step_core_exec`). -/
theorem stepRunsTheDecodedCommand : Obligations.StepRunsTheDecodedCommand := by
  refine ⟨fun s w i ops rest hd hp hi hh => ?_, fun s i hp hc hi => ?_, fun s i => ?_⟩
  · have hph := accept_cmd_phase hd { s with host := ops, inputs := .core :: rest }
    have hcur := accept_cmd_cur hd { s with host := ops, inputs := .core :: rest }
    refine ⟨_, ?_, rfl, hph, hcur, step_core_exec hph hcur (accept_inputs w _)⟩
    rw [step_host_write hi hh, memWrite_cmd (s := { s with host := ops, inputs := .core :: rest }) rfl hp]
  · rw [step_core hi, coreStep_exec hp hc]
  · have hd := decodeWord_encode i
    have hcur : (commandAccepted (encode i) s).cur = some i := accept_cmd_cur hd (idled s)
    have hin : (commandAccepted (encode i) s).inputs = .core :: s.inputs :=
      congrArg (Move.core :: ·) (accept_inputs (encode i) (idled s))
    rw [withFetchWord_encode]
    exact ⟨hcur, step_core_exec (accept_cmd_phase hd (idled s)) hcur hin⟩

end Sys2Proof.Machine
end

section
/-! PROOFS. What a step leaves of the inputs and of the results, and repeated writes (R51, R53, R56). -/

namespace Sys2Proof.Machine

open Host (Outcome)
open Sys2Proof.Spec

/-! ### Inputs while a command runs -/

theorem Quiet.sameInputs {s t : State} (h : Quiet s t) : SameInputs s t := by
  obtain ⟨n, r, ops, l, d, rfl⟩ := h
  exact ⟨rfl, rfl, rfl, rfl, rfl⟩

theorem Quiet.tLat {s t : State} (h : Quiet s t) : t.tLat = s.tLat := by
  obtain ⟨n, r, ops, l, d, rfl⟩ := h
  rfl

theorem SameInputs.trans {s u t : State} (h : SameInputs s u) (h' : SameInputs u t) : SameInputs s t :=
  ⟨h'.secretCap.trans h.secretCap, h'.secretLen.trans h.secretLen, h'.secretBuf.trans h.secretBuf,
    h'.tsOvr.trans h.tsOvr, h'.epoch.trans h.epoch⟩

theorem SameInputs.readChar_eq {s t : State} (h : SameInputs s t) (i : Nat) : readChar t i = readChar s i := by
  rw [readChar, readChar, h.secretBuf, h.epoch]

theorem SameInputs.secretText_eq {s t : State} (h : SameInputs s t) : secretText t = secretText s := by
  rw [secretText, secretText, h.secretLen, funext h.readChar_eq]

/-- A step while a command runs leaves the inputs and T_LAT, unless it is a reset (R56, R110). -/
theorem step_busy_inputs {s t : State} (hp : s.phase ≠ .idle) (h : step s = .next t) (hr : ¬ resets s) :
    SameInputs s t ∧ t.tLat = s.tLat := by
  cases step_effect h with
  | quiet hq => exact ⟨hq.sameInputs, hq.tLat⟩
  | exec u i hq _ _ _ he =>
    have hf := exec_frame he
    exact ⟨hq.sameInputs.trans hf.inputs, hf.ports.tLat.trans hq.tLat⟩
  | response u a hq _ ho hx =>
    have hf := respond_frame (hq.outstanding.trans ho) hx
    exact ⟨hq.sameInputs.trans hf.inputs, hf.ports.tLat.trans hq.tLat⟩
  | dropped u off v ops rest hq _ _ _ _ ht =>
    subst ht
    exact ⟨hq.sameInputs.trans ⟨rfl, rfl, rfl, rfl, rfl⟩, hq.tLat⟩
  | accepted u w _ ha _ => exact absurd ha.1 hp
  | written u v f _ hi _ _ => exact absurd hi hp
  | reset u _ hr' _ => exact absurd hr' hr

/-- Settles O59: only a reset, an acceptance and a write in IDLE change an input or T_LAT (`step_busy_inputs`). -/
theorem inputsAreStableDuringACommand : Obligations.InputsAreStableDuringACommand := by
  intro s t hp h hr
  obtain ⟨hin, hlat⟩ := step_busy_inputs hp h hr
  exact ⟨hin, hin.secretText_eq, hlat⟩

/-! ### Results while the core is idle -/

/-- The result registers are the same (R40). -/
structure SameResults (s t : State) : Prop where
  counters : SameCounters s t
  key : SameKey s t
  digest : SameDigest s t
  view : SameView s t
  codeStr : t.codeStr = s.codeStr

theorem Quiet.sameResults {s t : State} (h : Quiet s t) : SameResults s t := by
  obtain ⟨n, r, ops, l, d, rfl⟩ := h
  exact ⟨⟨rfl, rfl, rfl⟩, ⟨rfl, rfl⟩, ⟨rfl, rfl, rfl, rfl⟩, ⟨rfl, rfl⟩, rfl⟩

/-- A write of an input after no change of a register leaves the results. -/
theorem InputWrite.sameResults {cap : Nat} {v : Word} {f : State → State} (h : InputWrite cap v f) {s u : State}
    (hq : Quiet s u) : SameResults s (f u) := by
  obtain ⟨n, r, ops, l, d, rfl⟩ := hq
  rcases h with rfl | rfl | rfl | ⟨w, _, rfl⟩ <;>
    exact ⟨⟨rfl, rfl, rfl⟩, ⟨rfl, rfl⟩, ⟨rfl, rfl, rfl, rfl⟩, ⟨rfl, rfl⟩, rfl⟩

/-- While the core is idle a step that is neither an acceptance nor a reset leaves the results. -/
theorem step_idle_results {s t : State} (hinv : s.Inv) (hp : s.phase = .idle) (h : step s = .next t) (ha : ¬ accepts s)
    (hr : ¬ resets s) : SameResults s t := by
  cases step_effect h with
  | quiet hq => exact hq.sameResults
  | exec u i _ _ hp' _ _ => simp [hp] at hp'
  | response u a _ _ ho _ => simp [hinv.outstandingIff.1 ho] at hp
  | dropped u off v ops rest _ _ _ _ hp' _ => exact absurd hp hp'
  | accepted u w _ ha' _ => exact absurd ha' ha
  | written u v f hq _ hf ht => exact ht ▸ hf.sameResults hq
  | reset u _ hr' _ => exact absurd hr' hr

/-- Settles O34: BUSY = 0 means IDLE, where only an acceptance or a reset writes a result or STATUS. -/
theorem resultsStayUntilAcceptance : Obligations.ResultsStayUntilAcceptance := by
  intro s t hinv hbusy h ha hr
  rw [memRead_status, (statusWord_fields _).1] at hbusy
  have hp : s.phase = .idle := not_not.1 fun hp => by simp [hinv.busyIff.2 hp] at hbusy
  obtain ⟨hst, hph⟩ := step_idle_status hinv hp h ha hr
  obtain ⟨hcounters, hkey, hdigest, hview, hcodeStr⟩ := step_idle_results hinv hp h ha hr
  exact ⟨hph, hcounters, hkey, hdigest, hview, hcodeStr, hst⟩

/-! ### A repeated write -/

theorem Memory.mem_of_lookup {i : Nat} {v : Byte} {m : Memory} (h : Memory.lookup m i = some v) : (i, v) ∈ m := by
  induction m with
  | nil => cases h
  | cons c rest ih =>
    obtain ⟨j, b⟩ := c
    rw [Memory.lookup] at h
    split at h
    · next hij => rw [hij, Option.some.inj h]; exact List.mem_cons_self
    · exact List.mem_cons_of_mem _ (ih h)

/-- Writing the byte that is listed changes nothing, not the form of the store either. -/
theorem Memory.insert_of_lookup {i : Nat} {v : Byte} {m : Memory} (hwf : Memory.wf m) (h : Memory.lookup m i = some v) :
    Memory.insert i v m = m := by
  induction m with
  | nil => cases h
  | cons c rest ih =>
    obtain ⟨j, b⟩ := c
    obtain ⟨hj, hrest⟩ := List.pairwise_cons.1 hwf
    rw [Memory.lookup] at h
    rw [Memory.insert]
    split at h
    · next hij => rw [if_neg (by omega), if_pos hij, hij, Option.some.inj h]
    · next hij =>
      have hlt : j < i := hj i (List.mem_map_of_mem (f := Prod.fst) (Memory.mem_of_lookup h))
      rw [if_neg (by omega), if_neg hij, ih hrest h]

theorem Memory.insertAll_of_lookup (vs : Bytes) : ∀ (i : Nat) {m : Memory}, Memory.wf m →
    (∀ k < vs.length, Memory.lookup m (i + k) = vs[k]?) → Memory.insertAll i vs m = m := by
  induction vs with
  | nil => intro i m _ _; rfl
  | cons v vs ih =>
    intro i m hwf h
    have hv : Memory.lookup m i = some v := h 0 (Nat.zero_lt_succ _)
    rw [Memory.insertAll, Memory.insert_of_lookup hwf hv]
    refine ih (i + 1) hwf fun k hk => ?_
    rw [Nat.add_right_comm, Nat.add_assoc]
    exact h (k + 1) (Nat.succ_lt_succ hk)

/-- Writing the same bytes again changes nothing. -/
theorem Memory.insertAll_insertAll (i : Nat) (vs : Bytes) {m : Memory} (h : Memory.wf m) :
    Memory.insertAll i vs (Memory.insertAll i vs m) = Memory.insertAll i vs m := by
  refine Memory.insertAll_of_lookup vs i (Memory.insertAll_wf vs i h) fun k hk => ?_
  rw [Memory.lookup_insertAll vs i _ h, if_pos (by omega), Nat.add_sub_cancel_left]

/-- The write of an input is idempotent. -/
theorem InputWrite.idem {cap : Nat} {v : Word} {f : State → State} (h : InputWrite cap v f) {s : State}
    (hwf : Memory.wf s.secretBuf) : f (f s) = f s := by
  rcases h with rfl | rfl | rfl | ⟨w, _, rfl⟩
  · rfl
  · have hhi : hiWord (hiWord s.tsOvr ++ v) = hiWord s.tsOvr := BitVec.extractLsb'_append_eq_left
    simp only [setTsOvrLo, hhi]
  · have hlo : loWord (v ++ loWord s.tsOvr) = loWord s.tsOvr := BitVec.extractLsb'_append_eq_right
    simp only [setTsOvrHi, hlo]
  · simp only [setSecretWord, Memory.insertAll_insertAll _ _ hwf]

/-- A write of one writable offset other than CMD writes one input, in every state of the same SECRET_CAP (R42). -/
theorem memWrite_eq_writeInput {cap : Nat} {off : Offset} (h : writable cap (busAddr off)) (h0 : busAddr off ≠ 0x000)
    (v : Word) : ∃ f, InputWrite cap v f ∧ ∀ s : State, s.secretCap = cap → memWrite off v s = writeInput f s := by
  rcases writable_iff.1 h with hr | hr | hr | hr | ⟨w, hr, hm⟩ <;> simp only [memWrite, hr]
  · exact absurd (regAt_eq_cmd.1 hr) h0
  · exact ⟨_, .inl rfl, fun _ _ => rfl⟩
  · exact ⟨_, .inr (.inl rfl), fun _ _ => rfl⟩
  · exact ⟨_, .inr (.inr (.inl rfl)), fun _ _ => rfl⟩
  · exact ⟨_, .inr (.inr (.inr ⟨w, hm, rfl⟩)), fun s hs => if_pos (hs ▸ hm)⟩

/-- A write of an offset other than CMD is idempotent, in every phase. -/
theorem memWrite_memWrite {off : Offset} (h0 : busAddr off ≠ 0x000) (v : Word) {s : State}
    (hwf : Memory.wf s.secretBuf) : memWrite off v (memWrite off v s) = memWrite off v s := by
  by_cases hw : writable s.secretCap (busAddr off)
  · obtain ⟨f, hf, hmem⟩ := memWrite_eq_writeInput hw h0 v
    by_cases hp : s.phase = .idle
    · obtain ⟨_, hph, hcap⟩ := hf.frame s
      rw [hmem s rfl, writeInput_idle f hp, hmem (f s) hcap, writeInput_idle f (hph.trans hp), hf.idem hwf]
    · rw [memWrite_busy hw hp, memWrite_busy (s := dropWrite s) hw hp]
      rfl
  · rw [memWrite_unwritable hw, memWrite_unwritable hw]

/-- Settles O24: a read changes the model's own fields only, and a write of an input is idempotent. -/
theorem readsAndRepeatedWritesHaveNoEffect : Obligations.ReadsAndRepeatedWritesHaveNoEffect := by
  refine ⟨fun s off => sameRegisters_hostRead s off s.host s.inputs, fun s off v hwf h0 => memWrite_memWrite h0 v hwf,
    fun s off v hp h0 => ?_⟩
  by_cases hw : writable s.secretCap (busAddr off)
  · obtain ⟨f, hf, hm⟩ := memWrite_input hw h0 hp v
    obtain ⟨hst, hph, _⟩ := hf.frame s
    rw [hm]
    exact ⟨hst, hph.trans hp⟩
  · rw [memWrite_unwritable hw]
    exact ⟨rfl, hp⟩

end Sys2Proof.Machine
end

section
/-! PROOFS. What a read returns, bit by bit and lane by lane: zeros, buffers and the two windows (R45 to R48). -/

namespace Sys2Proof.Machine

open Sys2Proof.Spec

/-! ### The bits of a read that hold no result -/

section
variable {s : State} {off : Offset}

/-- A bit that holds no result reads as the register's in every phase (R40). -/
theorem memRead_getLsbD_exact {i : Nat} (h : (resultBits s.secretCap (regOf off)).getLsbD i = false) :
    (memRead s off).getLsbD i = (regWord s (regOf off)).getLsbD i := by
  by_cases hp : s.phase = .idle
  · rw [memRead_idle rfl hp]
  · rw [memRead, readReg_busy hp]
    simp only [BitVec.getLsbD_or, BitVec.getLsbD_and, BitVec.getLsbD_not, h]
    simpa using BitVec.lt_of_getLsbD

/-- The same of any bits of a read under a mask. -/
theorem memRead_and_exact {m : Word} (h : resultBits s.secretCap (regOf off) &&& m = 0) :
    memRead s off &&& m = regWord s (regOf off) &&& m := by
  apply BitVec.eq_of_getLsbD_eq
  intro i _
  rw [BitVec.getLsbD_and, BitVec.getLsbD_and]
  cases hm : m.getLsbD i with
  | false => simp
  | true =>
    have hi : (resultBits s.secretCap (regOf off) &&& m).getLsbD i = false := by simp [h]
    rw [memRead_getLsbD_exact (by simpa [hm] using hi)]

/-- The same of one lane of a read. -/
theorem memRead_extract_exact {i n : Nat} (h : (resultBits s.secretCap (regOf off)).extractLsb' i n = 0) :
    (memRead s off).extractLsb' i n = (regWord s (regOf off)).extractLsb' i n := by
  apply BitVec.eq_of_getLsbD_eq
  intro j hj
  have hij : ((resultBits s.secretCap (regOf off)).extractLsb' i n).getLsbD j = false := by simp [h]
  simp only [BitVec.getLsbD_extractLsb', hj, decide_true, Bool.true_and] at hij ⊢
  exact memRead_getLsbD_exact hij

end

/-! ### Bits and offsets that read 0 -/

theorem append_and_eq_zero {v w : Nat} {x m : BitVec w} {y n : BitVec v} (hx : x &&& m = 0#w) (hy : y &&& n = 0#v) :
    (x ++ y) &&& (m ++ n) = 0#(w + v) := by
  rw [BitVec.and_append, hx, hy, BitVec.zero_append_zero]

/-- The high bits of a zero-extended field read 0. -/
theorem zero_append_and {v : Nat} (w : Nat) (x : BitVec v) : (0#w ++ x) &&& (BitVec.allOnes w ++ 0#v) = 0#(w + v) :=
  append_and_eq_zero BitVec.zero_and BitVec.and_zero

theorem statusWord_and (st : Status) : statusWord st &&& 0xFFFF0080 = 0 := by
  have h7 := append_and_eq_zero (zero_append_and 16 st.lastop) (BitVec.zero_and (x := 1#1))
  have hovr := append_and_eq_zero h7 (BitVec.and_zero (x := BitVec.ofBool st.ovr))
  have hinvfmt := append_and_eq_zero hovr (BitVec.and_zero (x := BitVec.ofBool st.invfmt))
  have herr := append_and_eq_zero hinvfmt (BitVec.and_zero (x := st.err))
  have hdone := append_and_eq_zero herr (BitVec.and_zero (x := BitVec.ofBool st.done))
  exact append_and_eq_zero hdone (BitVec.and_zero (x := BitVec.ofBool st.busy))

theorem configWord_and (cap : Nat) : configWord cap &&& 0xF8000000 = 0 := by
  have halg := append_and_eq_zero (zero_append_and 5 (BitVec.ofNat 11 cap)) (BitVec.and_zero (x := 1#4))
  have hdigits := append_and_eq_zero halg (BitVec.and_zero (x := 6#4))
  exact append_and_eq_zero hdigits (BitVec.and_zero (x := 30#8))

theorem ratioWord_and (num : BitVec 5) : ratioWord num &&& 0xFFFFE0E0 = 0 := by
  have h7 := append_and_eq_zero (zero_append_and 19 30#5) (BitVec.zero_and (x := 7#3))
  exact append_and_eq_zero h7 (BitVec.and_zero (x := num))

theorem freeBits_and_readsZero (cap a : Nat) : freeBits cap a &&& readsZero a = 0 := by
  unfold readsZero
  split
  case h_11 => exact BitVec.and_zero
  all_goals simp [freeBits]

/-- The bits that are documented to read 0 are 0 in the word of the map. -/
theorem mapWord_and_readsZero (s : State) (a : Nat) : mapWord s a &&& readsZero a = 0 := by
  unfold readsZero
  split
  · exact statusWord_and s.status
  · exact configWord_and s.secretCap
  · exact zero_append_and 21 s.secretLen
  · exact zero_append_and 22 s.keyLen
  · exact zero_append_and 28 s.offset
  · exact zero_append_and 1 s.bincode
  · exact zero_append_and 12 s.code
  · exact append_and_eq_zero (zero_append_and 16 s.codeStr[5]) (BitVec.and_zero (x := s.codeStr[4]))
  · exact zero_append_and 27 s.secsRem
  · exact ratioWord_and s.ratioNum
  · exact BitVec.and_zero

/-- The bits that are documented to read 0 read 0, in every phase. -/
theorem memRead_and_readsZero (s : State) (off : Offset) : memRead s off &&& readsZero (busAddr off) = 0 := by
  have hfree : resultBits s.secretCap (regOf off) &&& readsZero (busAddr off) = 0 := by
    rw [resultBits_regOf, freeBits_and_readsZero]
  rw [memRead_and_exact hfree, regWord_regOf, mapWord_and_readsZero]

/-- An offset past the named registers that is in neither window's mapped part reads 0, in every phase. -/
theorem memRead_past {s : State} {off : Offset} (h : 0x074 ≤ busAddr off)
    (hs : ¬ inSecretWindow s.secretCap (busAddr off)) (hk : ¬ (0x800 ≤ busAddr off ∧ busAddr off ≤ 0xA7C)) : memRead s off = 0 := by
  rw [memRead_exact rfl (by rw [resultBits_regOf, freeBits_past h hk]), regWord_regOf, mapWord_past h hs hk]

theorem keyByte_past {s : State} {i : Nat} (h : Config.keyCap s.secretCap ≤ i) : keyByte s i = 0 :=
  if_neg (not_lt.2 h)

theorem keyLaneMask_past {cap i : Nat} (h : Config.keyCap cap ≤ i) : keyLaneMask cap i = 0 := if_neg (not_lt.2 h)

/-- A KEY window word past KEY_CAP reads 0, in every phase (R48). -/
theorem memRead_keyWin_past {s : State} {off : Offset} {w : Nat} (hr : regOf off = .keyWin w)
    (h : Config.keyCap s.secretCap ≤ 4 * w) : memRead s off = 0 := by
  have h' : ∀ j, Config.keyCap s.secretCap ≤ 4 * w + j := fun j => h.trans (Nat.le_add_right _ j)
  have hbits : resultBits s.secretCap (.keyWin w) = 0 := by
    simp only [resultBits, keyLaneMask_past h, keyLaneMask_past (h' _)]
    rfl
  rw [memRead_exact hr hbits]
  simp only [regWord, keyByte_past h, keyByte_past (h' _)]
  rfl

/-- Reserved offsets read 0, in every phase (R43, R46). -/
theorem memRead_reserved {s : State} {off : Offset} (h : reservedAddr s.secretCap (busAddr off)) :
    memRead s off = 0 := by
  rcases h with ⟨h, h'⟩ | ⟨h, h'⟩ | ⟨h, h', hcap⟩ | ⟨h, h', hcap⟩ | h
  · obtain ⟨k, hk⟩ := busAddr_aligned off
    have hr : regOf off = .reserved := by
      rw [regOf_eq_regAt, hk]
      obtain ⟨_, _⟩ : 20 ≤ k ∧ k < 24 := by omega
      interval_cases k <;> rfl
    exact memRead_exact hr rfl
  · exact memRead_past h (fun hs => by omega) (by omega)
  · exact memRead_past (by omega) (fun hs => by omega) (by omega)
  · have hr : regOf off = .keyWin ((busAddr off - 0x800) / 4) :=
      regAt_eq_keyWin.2 ⟨h, Nat.lt_of_le_of_lt h' (by decide), rfl⟩
    exact memRead_keyWin_past hr (by omega)
  · exact memRead_past (by omega) (fun hs => by omega) (by omega)

theorem memRead_cmd {s : State} {off : Offset} (h : busAddr off = 0x000) : memRead s off = 0 :=
  memRead_exact (r := .cmd) (regAt_eq_cmd.2 h) rfl

/-- Settles O14: what a write of an unwritable offset does (`memWrite_unwritable`) and what reads 0 in every
phase. -/
theorem unwritableAndReservedOffsets : Obligations.UnwritableAndReservedOffsets :=
  fun s off v => ⟨fun hw => memWrite_unwritable hw v, memRead_reserved, memRead_cmd, memRead_and_readsZero s off⟩

/-! ### Lanes -/

/-- Lane j of a word made of four consecutive bytes (R45). -/
theorem extract_ofLanes (f : Nat → Byte) (k : Nat) {j : Nat} (h : j < 4) :
    (ofLanes (f k) (f (k + 1)) (f (k + 2)) (f (k + 3))).extractLsb' (8 * j) 8 = f (k + j) := by
  interval_cases j <;> simp only [ofLanes, BitVec.extractLsb'_append_eq_ite] <;> simp

/-! ### The SECRET window -/

section
variable {s : State} {w : Nat}

/-- A mapped word of the SECRET window reads its characters in every phase (R47). -/
theorem memRead_secretWin_lane (hw : w < 256) (hm : w < s.secretCap / 4) {j : Nat} (hj : j < 4) :
    (memRead s (BitVec.ofNat 12 (0x400 + 4 * w))).extractLsb' (8 * j) 8 = readChar s (4 * w + j) := by
  have hword : memRead s (BitVec.ofNat 12 (0x400 + 4 * w)) =
      ofLanes (readChar s (4 * w)) (readChar s (4 * w + 1)) (readChar s (4 * w + 2)) (readChar s (4 * w + 3)) :=
    (memRead_exact (regOf_secretWin hw) rfl).trans (if_pos (decide_eq_true hm))
  rw [hword, extract_ofLanes (readChar s) _ hj]

theorem memRead_secretWin_unmapped (hw : w < 256) (hm : s.secretCap / 4 ≤ w) :
    memRead s (BitVec.ofNat 12 (0x400 + 4 * w)) = 0 :=
  (memRead_exact (regOf_secretWin hw) rfl).trans (if_neg (by simpa [secretMapped] using hm))

theorem memWrite_secretWin (hw : w < 256) (hm : w < s.secretCap / 4) (hp : s.phase = .idle) (v : Word) :
    memWrite (BitVec.ofNat 12 (0x400 + 4 * w)) v s = setSecretWord w v s := by
  simp only [memWrite, regOf_secretWin hw, secretMapped, hm, decide_true, if_true, writeInput_idle _ hp]

theorem memWrite_secretWin_unmapped (hw : w < 256) (hm : s.secretCap / 4 ≤ w) (v : Word) :
    memWrite (BitVec.ofNat 12 (0x400 + 4 * w)) v s = s := by
  simp only [memWrite, regOf_secretWin hw]
  exact if_neg (by simpa [secretMapped] using hm)

end

/-- Settles O21: one read and one write of a window word, mapped and unmapped. -/
theorem secretWindowMapsSecretBuf : Obligations.SecretWindowMapsSecretBuf := by
  intro s w v hinv hw
  refine ⟨fun hm => ⟨fun j hj => memRead_secretWin_lane hw hm hj, fun hp => ?_⟩,
    fun hm => ⟨memRead_secretWin_unmapped hw hm, memWrite_secretWin_unmapped hw hm v⟩⟩
  rw [memWrite_secretWin hw hm hp]
  refine ⟨fun j hj => ?_, fun i hi => ?_, rfl⟩
  · rw [readChar_setSecretWord s w v _ hinv.bufWf, if_pos (by omega), Nat.add_sub_cancel_left]
    rfl
  · rw [readChar_setSecretWord s w v _ hinv.bufWf, if_neg (by omega)]

/-! ### The KEY window -/

section
variable {s : State} {w j : Nat}

/-- A word of the KEY window reads the bytes of KEY_BUF while PHASE is IDLE (R48). -/
theorem memRead_keyWin_lane (hw : w < 160) (hj : j < 4) (hp : s.phase = .idle) :
    (memRead s (BitVec.ofNat 12 (0x800 + 4 * w))).extractLsb' (8 * j) 8 = keyByte s (4 * w + j) := by
  rw [memRead_idle (regOf_keyWin hw) hp, regWord, extract_ofLanes (keyByte s) _ hj]

/-- A lane past KEY_CAP reads 0x00 in every phase. -/
theorem memRead_keyWin_lane_past (hw : w < 160) (hj : j < 4) (h : Config.keyCap s.secretCap ≤ 4 * w + j) :
    (memRead s (BitVec.ofNat 12 (0x800 + 4 * w))).extractLsb' (8 * j) 8 = 0 := by
  have hbits : (resultBits s.secretCap (.keyWin w)).extractLsb' (8 * j) 8 = 0 := by
    rw [resultBits, extract_ofLanes (keyLaneMask s.secretCap) _ hj, keyLaneMask_past h]
  rw [← regOf_keyWin hw] at hbits
  rw [memRead_extract_exact hbits, regOf_keyWin hw, regWord, extract_ofLanes (keyByte s) _ hj, keyByte_past h]

theorem memWrite_keyWin (hw : w < 160) (v : Word) : memWrite (BitVec.ofNat 12 (0x800 + 4 * w)) v s = s := by
  simp only [memWrite, regOf_keyWin hw]

end

/-- Settles O22: the lanes of one window word, and the bound of KEY_CAP by that of SECRET_CAP. -/
theorem keyWindowMapsKeyBuf : Obligations.KeyWindowMapsKeyBuf := by
  refine ⟨fun s w v _ hw => ?_, fun cap => keyCap_le, rfl, rfl⟩
  exact ⟨fun hp j hj => memRead_keyWin_lane hw hj hp, fun j hj => memRead_keyWin_lane_past hw hj, memWrite_keyWin hw v,
    fun h => memRead_keyWin_past (regOf_keyWin hw) (by omega)⟩

/-! ### The buffers -/

/-- Byte k of a buffer, 0x00 past its end. -/
def bufByte {n : Nat} (b : Vector Byte n) (k : Nat) : Byte := if h : k < n then b[k] else 0

/-- Word w of a buffer's span (R45). -/
def bufWord {n : Nat} (b : Vector Byte n) (w : Nat) : Word :=
  ofLanes (bufByte b (4 * w)) (bufByte b (4 * w + 1)) (bufByte b (4 * w + 2)) (bufByte b (4 * w + 3))

/-- Byte i of a buffer is in lane i mod 4 of word i div 4 (R45). -/
theorem extract_bufWord {n : Nat} (b : Vector Byte n) (i : Fin n) :
    (bufWord b (i.val / 4)).extractLsb' (8 * (i.val % 4)) 8 = b[i.val] := by
  rw [bufWord, extract_ofLanes (bufByte b) _ (Nat.mod_lt _ (by decide)), Nat.div_add_mod]
  exact dif_pos i.isLt

section
variable {s : State} (hp : s.phase = .idle) {w : Nat}
include hp

theorem memRead_msg (hw : w < 2) : memRead s (BitVec.ofNat 12 (0x028 + 4 * w)) = bufWord s.msg w := by
  interval_cases w
  · exact memRead_idle (r := .msgW0) rfl hp
  · exact memRead_idle (r := .msgW1) rfl hp

theorem memRead_digest (hw : w < 5) : memRead s (BitVec.ofNat 12 (0x060 + 4 * w)) = bufWord s.digest w := by
  interval_cases w
  · exact memRead_idle (r := .digest 0) rfl hp
  · exact memRead_idle (r := .digest 1) rfl hp
  · exact memRead_idle (r := .digest 2) rfl hp
  · exact memRead_idle (r := .digest 3) rfl hp
  · exact memRead_idle (r := .digest 4) rfl hp

theorem memRead_codeStr (hw : w < 2) : memRead s (BitVec.ofNat 12 (0x040 + 4 * w)) = bufWord s.codeStr w := by
  interval_cases w
  · exact memRead_idle (r := .codeStrW0) rfl hp
  · exact memRead_idle (r := .codeStrW1) rfl hp

end

theorem legalCap_mod {cap : Nat} (h : Config.legalCap cap = true) : cap % 8 = 0 := by
  simp only [Config.legalCap, Bool.and_eq_true, beq_iff_eq] at h
  exact h.2

/-- Character i of SECRET_BUF is in lane i mod 4 of word i div 4 of its window. -/
theorem memRead_secretBuf_byte {s : State} (hcap : Config.legalCap s.secretCap = true) {i : Nat} (h : i < s.secretCap) :
    (memRead s (BitVec.ofNat 12 (0x400 + 4 * (i / 4)))).extractLsb' (8 * (i % 4)) 8 = readChar s i := by
  have hle := legalCap_le hcap
  have hmod := legalCap_mod hcap
  rw [memRead_secretWin_lane (by omega) (by omega) (Nat.mod_lt i (by decide)), Nat.div_add_mod]

/-- Byte i of KEY_BUF is in lane i mod 4 of word i div 4 of its window. -/
theorem memRead_keyBuf_byte {s : State} (hinv : s.Inv) (hp : s.phase = .idle) {i : Nat} (h : i < s.keyBuf.length) :
    (memRead s (BitVec.ofNat 12 (0x800 + 4 * (i / 4)))).extractLsb' (8 * (i % 4)) 8 = s.keyBuf[i] := by
  have hle := keyCap_le hinv.capLegal
  have hi : i < Config.keyCap s.secretCap := hinv.keyBufLength ▸ h
  rw [memRead_keyWin_lane (by omega) (Nat.mod_lt i (by decide)) hp, Nat.div_add_mod, keyByte, if_pos hi,
    List.getD_eq_getElem _ _ h]

/-- Settles O16: each buffer's span reads as its words, whose lanes are its bytes. -/
theorem buffersInLittleEndianLanes : Obligations.BuffersInLittleEndianLanes := by
  refine ⟨fun s hinv hp => ⟨fun i => ?_, fun i => ?_, fun i => ?_,
    fun i hi => memRead_secretBuf_byte hinv.capLegal hi, fun i hi => memRead_keyBuf_byte hinv hp hi⟩, fun s hp hc => ⟨?_, ?_⟩⟩
  · rw [memRead_msg hp (by omega), extract_bufWord]
  · rw [memRead_digest hp (by omega), extract_bufWord]
  · rw [memRead_codeStr hp (by omega), extract_bufWord]
  · exact (memRead_codeStr hp (w := 0) (by decide)).trans (by rw [hc]; rfl)
  · exact (memRead_codeStr hp (w := 1) (by decide)).trans (by rw [hc]; rfl)

end Sys2Proof.Machine
end

section
/-! PROOFS. A word decodes exactly when its fields are a command's, and these are the legal fields (R59 to R65). -/

namespace Sys2Proof

open Sys2Proof.Spec

/-! ### The legal fields -/

/-- The fields of every command pass the three checks of R63. -/
theorem Instr.wf_eq_true (i : Instr) : i.wf = true := by cases i <;> rfl

theorem Cmd32.legal_iff_checks (c : Cmd32) :
    c.legal = true ↔
      c.rsv = 0 ∧ (1 ≤ c.opc.toNat ∧ c.opc.toNat ≤ 8) ∧ (c.tsel = false ∨ c.opc.toNat ∈ [0x02, 0x06, 0x07, 0x08]) := by
  obtain ⟨opc, tsel, rsv⟩ := c
  simp [Cmd32.legal, Cmd32.reservedZero, Cmd32.opcodeAssigned, Cmd32.tselAdmitted, BitVec.toNat_eq, and_assoc, or_assoc]

/-- The legal fields are the twelve commands' (R60, R61). -/
theorem Cmd32.legal_iff_fields (c : Cmd32) : c.legal = true ↔ ∃ i : Instr, c = i.fields := by
  constructor
  · obtain ⟨opc, tsel, rsv⟩ := c
    rw [Cmd32.legal_iff_checks]
    rintro ⟨hrsv, ⟨h1, h8⟩, ht⟩
    simp only at hrsv h1 h8 ht
    subst hrsv
    cases tsel with
    | false =>
      have hopc : opc = 1 ∨ opc = 2 ∨ opc = 3 ∨ opc = 4 ∨ opc = 5 ∨ opc = 6 ∨ opc = 7 ∨ opc = 8 := by bv_omega
      rcases hopc with rfl | rfl | rfl | rfl | rfl | rfl | rfl | rfl
      · exact ⟨.decode, rfl⟩
      · exact ⟨.counter, rfl⟩
      · exact ⟨.pack, rfl⟩
      · exact ⟨.hmac, rfl⟩
      · exact ⟨.trunc, rfl⟩
      · exact ⟨.generate, rfl⟩
      · exact ⟨.secrem, rfl⟩
      · exact ⟨.ratio, rfl⟩
    | true =>
      have hopc : opc = 2 ∨ opc = 6 ∨ opc = 7 ∨ opc = 8 := by
        simp at ht
        bv_omega
      rcases hopc with rfl | rfl | rfl | rfl
      · exact ⟨.counterTs, rfl⟩
      · exact ⟨.generateTs, rfl⟩
      · exact ⟨.secremTs, rfl⟩
      · exact ⟨.ratioTs, rfl⟩
  · rintro ⟨i, rfl⟩
    exact i.wf_eq_true

/-! ### Decoding -/

theorem decodeWord_eq_cmd_iff {w : Word} {i : Instr} : decodeWord w = .cmd i ↔ Cmd32.ofWord w = i.fields := by
  refine ⟨ofWord_of_decodeWord, fun h => ?_⟩
  have hw : w = encode i := by rw [encode, ← h, Cmd32.toWord_ofWord]
  rw [hw, decodeWord_encode]

theorem legal_ofWord_iff (w : Word) : (Cmd32.ofWord w).legal = true ↔ ∃ i, decodeWord w = .cmd i := by
  simp only [Cmd32.legal_iff_fields, decodeWord_eq_cmd_iff]

/-- Settles O3: the fields of a word that decodes are its command's, so the word is the command's. -/
theorem decodeEncodeAgree : Obligations.DecodeEncodeAgree :=
  ⟨fun i _ => decodeWord_encode i, fun _ i h => ⟨(eq_encode_of_decodeWord h).symm, i.wf_eq_true⟩, legal_ofWord_iff⟩

theorem encode_pair_mem_commandWords (i : Instr) : (encode i, i) ∈ commandWords := by cases i <;> decide

/-- The table of R65 lists the words that decode, each with its command. -/
theorem decodeWord_eq_cmd_iff_mem {w : Word} {i : Instr} : decodeWord w = .cmd i ↔ (w, i) ∈ commandWords := by
  constructor
  · intro h
    rw [eq_encode_of_decodeWord h]
    exact encode_pair_mem_commandWords i
  · intro h
    have hw : w = encode i := commandWords_eq_encode _ h
    rw [hw, decodeWord_encode]

/-- Settles O1: the decoder and the table of R65 agree on every pair (`decodeWord_eq_cmd_iff_mem`). -/
theorem decodeTotalOnTwelveWords : Obligations.DecodeTotalOnTwelveWords := by
  refine ⟨fun w => ?_, fun w i => decodeWord_eq_cmd_iff_mem⟩
  cases hd : decodeWord w with
  | illegal r => exact .inl ⟨⟨r, rfl⟩, by simp [mem_commandWords_iff, hd]⟩
  | cmd i => exact .inr ⟨i, rfl, fun j => by rw [← decodeWord_eq_cmd_iff_mem, hd, Decoded.cmd.injEq, eq_comm]⟩

theorem legalWord_iff (w : Word) : legalWord w ↔ ∃ i, decodeWord w = .cmd i := by
  rw [← legal_ofWord_iff, Cmd32.legal_iff_checks]
  rfl

/-- Settles O2: the rule's conditions are the three field checks, and an illegal word does not decode. -/
theorem legalExactlyWhenDecoded : Obligations.LegalExactlyWhenDecoded := by
  refine ⟨legalWord_iff, ?_, fun w s h => ?_⟩
  · rintro w hw ⟨hrsv, ⟨h1, h8⟩, ht⟩
    rcases hw with h | h | h | ⟨hsel, hopc⟩
    · simp [h] at h1
    · omega
    · exact h hrsv
    · rcases ht with ht | ht
      · cases hsel.symm.trans ht
      · simp only [List.mem_cons, List.not_mem_nil, or_false] at ht hopc
        omega
  · cases hd : decodeWord w with
    | cmd i => exact absurd ((legalWord_iff w).2 ⟨i, hd⟩) h
    | illegal r =>
      rw [Machine.accept_illegal hd]
      exact Machine.completed_complete .illegalCmd _

/-- Settles O4: each word is evaluated. -/
theorem commandWordsDecode : Obligations.CommandWordsDecode := by
  unfold Obligations.CommandWordsDecode
  decide

end Sys2Proof
end

section
/-! PROOFS. What each command writes (R62), and GENERATE against its five stages (R97). -/

namespace Sys2Proof.Machine

open Host (Outcome)

/-! ### The result of an EXEC step, command by command -/

/-- `t` is what the EXEC step of the command leaves of `s`; DECODE and GENERATE have an error exit (R103). -/
inductive Executed (s : State) : Instr → State → Prop where
  | decode (h : secretTooLong s = false) : Executed s .decode (complete .none (decodeSecret s))
  | decodeTooLong (h : secretTooLong s = true) : Executed s .decode (complete .secretTooLong s)
  | counter : Executed s .counter (complete .none (countTime s))
  | counterTs : Executed s .counterTs (complete .none (countTime s))
  | pack : Executed s .pack (complete .none (packCounter s))
  | hmac : Executed s .hmac (hmacRequest s)
  | trunc : Executed s .trunc (complete .none (truncateDigest s))
  | generate (h : secretTooLong s = false) :
      Executed s .generate (hmacRequest (packCounter (countTime (decodeSecret s))))
  | generateTooLong (h : secretTooLong s = true) :
      Executed s .generate (complete .secretTooLong (setCodeStr sentinel s))
  | generateTs (h : secretTooLong s = false) :
      Executed s .generateTs (hmacRequest (packCounter (countTime (decodeSecret s))))
  | generateTsTooLong (h : secretTooLong s = true) :
      Executed s .generateTs (complete .secretTooLong (setCodeStr sentinel s))
  | secrem : Executed s .secrem (complete .none (viewSeconds s))
  | secremTs : Executed s .secremTs (complete .none (viewSeconds s))
  | ratio : Executed s .ratio (complete .none (viewRatio s))
  | ratioTs : Executed s .ratioTs (complete .none (viewRatio s))

theorem executed_of_exec {i : Instr} {s t : State} (h : exec i s = .next t) : Executed s i t := by
  rcases exec_cases i s with ⟨u, hx, hu⟩ | ⟨rfl, hx⟩ | ⟨hi, hl, hx⟩ | ⟨hl, rfl, hx⟩ | ⟨hl, hi, hx⟩ <;>
    obtain rfl := Outcome.next.inj (h.symm.trans hx)
  · rcases hu with ⟨rfl, hl, rfl⟩ | ⟨rfl | rfl, rfl⟩ | ⟨rfl, rfl⟩ | ⟨rfl, rfl⟩ | ⟨rfl | rfl, rfl⟩ | ⟨rfl | rfl, rfl⟩
    · exact .decode hl
    all_goals constructor
  · exact .hmac
  · rcases hi with rfl | rfl
    · exact .generate hl
    · exact .generateTs hl
  · exact .decodeTooLong hl
  · rcases hi with rfl | rfl
    · exact .generateTooLong hl
    · exact .generateTsTooLong hl

/-! ### The result registers a command leaves -/

section
variable {i : Instr} {s t : State} (h : Executed s i t)
include h

theorem Executed.digest_eq : t.digest = s.digest := by cases h <;> rfl

theorem Executed.sameKey (hd : i ≠ .decode) (hg : i ≠ .generate) (hgt : i ≠ .generateTs) :
    SameKey s t ∧ t.status.invfmt = s.status.invfmt := by
  cases h
  case decode | decodeTooLong | generate | generateTooLong | generateTs | generateTsTooLong => contradiction
  all_goals exact ⟨⟨rfl, rfl⟩, rfl⟩

theorem Executed.tsUsed_counter_eq (hi : i = .decode ∨ i = .pack ∨ i = .hmac ∨ i = .trunc) :
    t.tsUsed = s.tsUsed ∧ t.counter = s.counter := by
  rcases hi with rfl | rfl | rfl | rfl <;> cases h <;> exact ⟨rfl, rfl⟩

theorem Executed.view_counter_eq (hi : i = .secrem ∨ i = .secremTs ∨ i = .ratio ∨ i = .ratioTs) :
    t.counter = s.counter := by
  rcases hi with rfl | rfl | rfl | rfl <;> cases h <;> rfl

theorem Executed.msg_eq (hp : i ≠ .pack) (hg : i ≠ .generate) (hgt : i ≠ .generateTs) : t.msg = s.msg := by
  cases h
  case pack | generate | generateTooLong | generateTs | generateTsTooLong => contradiction
  all_goals rfl

theorem Executed.truncation_eq (ht : i ≠ .trunc) :
    t.offset = s.offset ∧ t.bincode = s.bincode ∧ t.code = s.code := by
  cases h
  case trunc => contradiction
  all_goals exact ⟨rfl, rfl, rfl⟩

theorem Executed.codeStr_eq (ht : i ≠ .trunc) (hg : i ≠ .generate) (hgt : i ≠ .generateTs) :
    t.codeStr = s.codeStr := by
  cases h
  case trunc | generate | generateTooLong | generateTs | generateTsTooLong => contradiction
  all_goals rfl

theorem Executed.secsRem_eq (hs : i ≠ .secrem) (hst : i ≠ .secremTs) : t.secsRem = s.secsRem := by
  cases h
  case secrem | secremTs => contradiction
  all_goals rfl

theorem Executed.ratioNum_eq (hr : i ≠ .ratio) (hrt : i ≠ .ratioTs) : t.ratioNum = s.ratioNum := by
  cases h
  case ratio | ratioTs => contradiction
  all_goals rfl

theorem Executed.sameRequest (hh : i ≠ .hmac) (hg : i ≠ .generate) (hgt : i ≠ .generateTs) : SameRequest s t := by
  cases h
  case hmac | generate | generateTooLong | generateTs | generateTsTooLong => contradiction
  all_goals exact ⟨rfl, rfl⟩

end

/-- Settles O58: what no command writes (`exec_frame`), then one lemma for each group of result registers. -/
theorem commandsWriteOnlyTheirRegisters : Obligations.CommandsWriteOnlyTheirRegisters := by
  intro i s t he
  obtain ⟨hinputs, hports, hflags⟩ := exec_frame he
  have h := executed_of_exec he
  exact ⟨hinputs, hports, hflags, hinputs.readChar_eq, h.digest_eq, h.sameKey, h.tsUsed_counter_eq, h.view_counter_eq,
    h.msg_eq, h.truncation_eq, h.codeStr_eq, h.secsRem_eq, h.ratioNum_eq, h.sameRequest⟩

/-! ### GENERATE and its stages -/

theorem act_respond_hmac {s : State} (a : Answer) (ho : s.outstanding = true) (hc : s.cur = some .hmac) :
    act (.respond a) s = .next (finishHmac a (takeResponse s)) := by
  simp [act, respond, finish, ho, hc]

theorem act_respond_generate {s : State} {i : Instr} (a : Answer) (ho : s.outstanding = true)
    (hi : i = .generate ∨ i = .generateTs) (hc : s.cur = some i) :
    act (.respond a) s = .next (finishGenerate a (takeResponse s)) := by
  rcases hi with rfl | rfl <;> simp [act, respond, finish, ho, hc]

theorem exec_generate_fits {s : State} {i : Instr} (hi : i = .generate ∨ i = .generateTs)
    (h : secretTooLong s = false) :
    exec i s = .next (hmacRequest (packCounter (countTime (decodeSecret s)))) := by
  rcases hi with rfl | rfl <;> simp [generateStages_fits h]

/-- Settles O56: a completion between two stages writes STATUS, PHASE and CUR only, and what a stage writes into any
other register does not depend on these. -/
theorem generateEqualsItsStages : Obligations.GenerateEqualsItsStages := by
  rintro s i a d - hi hc hlen rfl
  have hl : secretTooLong s = false := secretTooLong_eq_false.2 hlen
  refine ⟨_, _, _, _, _, _, _, _, exec_generate_fits hi hl, act_respond_generate _ rfl hi hc, exec_decode_fits hl,
    exec_counter _, exec_pack _, exec_hmac _, act_respond_hmac _ rfl rfl, exec_trunc _, rfl, rfl⟩

end Sys2Proof.Machine
end

section
/-! PROOFS. LDSECRET and LDTS, run one turn of the host each (R67). -/

namespace Sys2Proof.Machine

/-! ### Turns of the host that write -/

/-- The state with this program of the host and these moves to come. -/
def withHost (ops : List HostStep) (rest : List Move) (s : State) : State := { s with host := ops, inputs := rest }

theorem withHost_self {s : State} {ops : List HostStep} {rest : List Move} (hh : s.host = ops) (hi : s.inputs = rest) :
    withHost ops rest s = s := by
  rw [withHost, ← hh, ← hi]

section
variable (ops : List HostStep) (rest : List Move) (k : Nat) {s : State}

theorem run_host_write (off : Offset) (v : Word) :
    Host.Core.run core (k + 1) (withHost (.write off v :: ops) (.host :: rest) s) =
      Host.Core.run core k (memWrite off v (withHost ops rest s)) := by
  have hstep : core.step (withHost (.write off v :: ops) (.host :: rest) s) =
      .next (memWrite off v (withHost ops rest s)) :=
    step_host_write (s := withHost (.write off v :: ops) (.host :: rest) s) rfl rfl
  simp only [Host.Core.run, hstep]

/-- A turn that writes a mapped word of the SECRET window (R47). -/
theorem run_secret_word (hp : s.phase = .idle) (hcap : Config.legalCap s.secretCap = true) {w : Nat}
    (hw : w < s.secretCap / 4) (v : Word) :
    Host.Core.run core (k + 1) (withHost (.write (secretWordOffset w) v :: ops) (.host :: rest) s) =
      Host.Core.run core k (withHost ops rest (setSecretWord w v s)) := by
  have hle := legalCap_le hcap
  have hwrite : memWrite (secretWordOffset w) v (withHost ops rest s) = withHost ops rest (setSecretWord w v s) :=
    memWrite_secretWin (s := withHost ops rest s) (by omega) hw hp v
  exact (run_host_write ops rest k _ v).trans (congrArg (Host.Core.run core k) hwrite)

end

/-! ### The writes of LDSECRET -/

/-- The first window word of a text, 0x00 beyond its end (R67). -/
def windowWord (text : Bytes) : Word :=
  ofLanes (text.getD 0 0) (text.getD 1 0) (text.getD 2 0) (text.getD 3 0)

/-- The text, filled up with 0x00 to whole window words (R67). -/
def wordPadded (text : Bytes) : Bytes := text ++ zeros (4 * ((text.length + 3) / 4) - text.length)

theorem lanes_ofLanes (b0 b1 b2 b3 : Byte) : lanes (ofLanes b0 b1 b2 b3) = [b0, b1, b2, b3] := by
  simp only [lanes, lane, ofLanes, BitVec.extractLsb'_append_eq_ite]
  simp

theorem secretWrites_of_ne_nil (w : Nat) : ∀ {text : Bytes}, text ≠ [] →
    secretWrites w text = .write (secretWordOffset w) (windowWord text) :: secretWrites (w + 1) (text.drop 4)
  | [], h => absurd rfl h
  | [_], _ | [_, _], _ | [_, _, _], _ | _ :: _ :: _ :: _ :: _, _ => rfl

theorem wordPadded_of_ne_nil : ∀ {text : Bytes}, text ≠ [] →
    wordPadded text = lanes (windowWord text) ++ wordPadded (text.drop 4)
  | [], h => absurd rfl h
  | [_], _ | [_, _], _ | [_, _, _], _ => by
    rw [windowWord, lanes_ofLanes]; simp [wordPadded, zeros]
  | c0 :: c1 :: c2 :: c3 :: text, _ => by
    have hpad : 4 * ((text.length + 4 + 3) / 4) - (text.length + 4) = 4 * ((text.length + 3) / 4) - text.length := by
      omega
    rw [windowWord, lanes_ofLanes]
    exact congrArg (fun n => c0 :: c1 :: c2 :: c3 :: text ++ zeros n) hpad

theorem wordPadded_length (text : Bytes) : (wordPadded text).length = 4 * ((text.length + 3) / 4) := by
  simp only [wordPadded, zeros, List.length_append, List.length_replicate]
  omega

theorem wordPadded_getElem? {text : Bytes} {i : Nat} (h : i < text.length) : (wordPadded text)[i]? = some text[i] := by
  rw [wordPadded, List.getElem?_append_left h, List.getElem?_eq_getElem h]

theorem secretWrites_length (text : Bytes) (w : Nat) : (secretWrites w text).length = (text.length + 3) / 4 := by
  by_cases h : text = []
  · rw [h]; rfl
  · have hpos := List.length_pos_iff.2 h
    rw [secretWrites_of_ne_nil w h, List.length_cons, secretWrites_length (text.drop 4), List.length_drop]
    omega
termination_by text.length
decreasing_by simp; omega

/-- SECRET_BUF takes these characters from an index on. -/
def storeText (i : Nat) (text : Bytes) (s : State) : State :=
  { s with secretBuf := Memory.insertAll i text s.secretBuf }

theorem storeText_setSecretWord (w : Nat) (v : Word) (text : Bytes) (s : State) :
    storeText (4 * (w + 1)) text (setSecretWord w v s) = storeText (4 * w) (lanes v ++ text) s := rfl

/-- The writes of a text store it, filled up to whole words, and the host goes on with its program. -/
theorem run_secretWrites (ops : List HostStep) (rest : List Move) (k : Nat) (text : Bytes) (w : Nat) {s : State}
    (hp : s.phase = .idle) (hcap : Config.legalCap s.secretCap = true) (hfit : 4 * w + text.length ≤ s.secretCap) :
    Host.Core.run core ((secretWrites w text).length + k)
        (withHost (secretWrites w text ++ ops) (List.replicate (secretWrites w text).length .host ++ rest) s) =
      Host.Core.run core k (withHost ops rest (storeText (4 * w) (wordPadded text) s)) := by
  by_cases h : text = []
  · subst h
    exact congrArg (Host.Core.run core · _) (Nat.zero_add k)
  · have hmod := legalCap_mod hcap
    have hpos := List.length_pos_iff.2 h
    rw [secretWrites_of_ne_nil w h, wordPadded_of_ne_nil h, ← storeText_setSecretWord, List.length_cons,
      Nat.add_right_comm]
    refine (run_secret_word _ _ _ hp hcap (by omega) _).trans ?_
    exact run_secretWrites ops rest k (text.drop 4) (w + 1) hp hcap (by simp; omega)
termination_by text.length
decreasing_by simp; omega

/-! ### What LDSECRET and LDTS leave -/

/-- The registers LDSECRET leaves (R67). -/
def secretLoaded (text : Bytes) (s : State) : State :=
  setSecretLen (BitVec.ofNat 32 text.length) (storeText 0 (wordPadded text) s)

theorem setTsOvr_halves (v : Stamp) (s : State) :
    setTsOvrHi (hiWord v) (setTsOvrLo (loWord v) s) = { s with tsOvr := v } := by
  have hlo : loWord (hiWord s.tsOvr ++ loWord v) = loWord v := BitVec.extractLsb'_append_eq_right
  have hv : hiWord v ++ loWord v = v := by
    rw [hiWord, loWord, BitVec.extractLsb'_append_extractLsb'_eq_extractLsb' (by decide)]
    simp
  simp only [setTsOvrHi, setTsOvrLo, hlo, hv]

section
variable (text : Bytes) (ops : List HostStep) (rest : List Move) {s : State}

theorem run_ldSecret (hp : s.phase = .idle) (hcap : Config.legalCap s.secretCap = true)
    (hfit : text.length ≤ s.secretCap) :
    Host.Core.run core ((text.length + 3) / 4 + 1)
        (withHost (hostSteps (.ldsecret text) ++ ops) (lineMoves (.ldsecret text) ++ rest) s) =
      .next (withHost ops rest (secretLoaded text s)) := by
  have hmoves : lineMoves (.ldsecret text) = List.replicate (secretWrites 0 text).length .host ++ [.host] := by
    simp [lineMoves, hostSteps, ldSecret, List.replicate_succ']
  have hwrite : memWrite 0x00C (BitVec.ofNat 32 text.length) (withHost ops rest (storeText 0 (wordPadded text) s)) =
      withHost ops rest (secretLoaded text s) := writeInput_idle _ hp
  rw [hmoves, hostSteps, ldSecret, List.append_assoc, List.append_assoc, ← secretWrites_length text 0]
  refine (run_secretWrites _ _ 1 text 0 hp hcap (by omega)).trans ?_
  exact (run_host_write ops rest 0 _ _).trans (congrArg Host.Outcome.next hwrite)

/-- A character of SECRET_BUF after LDSECRET: of the text filled up to whole words, or as it was. -/
theorem readChar_secretLoaded (hwf : Memory.wf s.secretBuf) (i : Nat) :
    readChar (secretLoaded text s) i =
      if i < 4 * ((text.length + 3) / 4) then (wordPadded text).getD i 0 else readChar s i := by
  have hlook : Memory.lookup (secretLoaded text s).secretBuf i =
      if i < 4 * ((text.length + 3) / 4) then (wordPadded text)[i]? else Memory.lookup s.secretBuf i := by
    simpa [wordPadded_length] using! Memory.lookup_insertAll (wordPadded text) 0 i hwf
  rw [readChar, hlook]
  split
  · next h =>
    rw [← wordPadded_length] at h
    simp [h]
  · rfl

theorem secretLoaded_secretLen (s : State) (hlen : text.length < 2048) :
    (secretLoaded text s).secretLen.toNat = text.length := by
  simp only [secretLoaded, setSecretLen_secretLen, BitVec.extractLsb'_toNat, BitVec.toNat_ofNat]
  omega

theorem secretText_secretLoaded (hwf : Memory.wf s.secretBuf) (hlen : text.length < 2048) :
    secretText (secretLoaded text s) = text := by
  apply List.ext_getElem
  · simp [secretText, secretLoaded_secretLen text s hlen]
  · intro i _ hi
    simp only [secretText, List.getElem_map, List.getElem_range]
    rw [readChar_secretLoaded text hwf, if_pos (by omega), List.getD_eq_getElem?_getD, wordPadded_getElem? hi]
    rfl

theorem run_ldTs (v : Stamp) (hp : s.phase = .idle) :
    Host.Core.run core 2 (withHost (hostSteps (.ldts v) ++ ops) (lineMoves (.ldts v) ++ rest) s) =
      .next (withHost ops rest { s with tsOvr := v }) := by
  have hlo (ops : List HostStep) (rest : List Move) : memWrite 0x010 (loWord v) (withHost ops rest s) =
      withHost ops rest (setTsOvrLo (loWord v) s) := writeInput_idle _ hp
  have hhi : memWrite 0x014 (hiWord v) (withHost ops rest (setTsOvrLo (loWord v) s)) =
      withHost ops rest (setTsOvrHi (hiWord v) (setTsOvrLo (loWord v) s)) := writeInput_idle _ hp
  calc
    _ = Host.Core.run core 1 (memWrite 0x010 (loWord v)
          (withHost (.write 0x014 (hiWord v) :: ops) (.host :: rest) s)) := run_host_write _ _ 1 _ _
    _ = Host.Core.run core 0 (memWrite 0x014 (hiWord v) (withHost ops rest (setTsOvrLo (loWord v) s))) :=
      (congrArg (Host.Core.run core 1) (hlo _ _)).trans (run_host_write ops rest 0 _ _)
    _ = .next (withHost ops rest { s with tsOvr := v }) :=
      congrArg Host.Outcome.next (hhi.trans (congrArg (withHost ops rest) (setTsOvr_halves v s)))

end

/-- Settles O60: both expansions run to a state written out (`run_ldSecret`, `run_ldTs`), and a character of SECRET_BUF is
read there as of the text or as before (`readChar_secretLoaded`). -/
theorem loadPseudoInstructionsLoad : Obligations.LoadPseudoInstructionsLoad := by
  constructor
  · intro s text ops rest hinv hp hfit hh hi
    have hle := legalCap_le hinv.capLegal
    have hsteps : text.length / 4 + (if text.length % 4 = 0 then 0 else 1) = (text.length + 3) / 4 := by
      split <;> omega
    have hrun := run_ldSecret text ops rest hp hinv.capLegal hfit
    rw [withHost_self hh hi] at hrun
    refine ⟨withHost ops rest (secretLoaded text s), hsteps ▸ hrun, secretLoaded_secretLen text s (by omega),
      secretText_secretLoaded text hinv.bufWf (by omega), rfl, rfl, fun i h => ?_, rfl⟩
    exact (readChar_secretLoaded text hinv.bufWf i).trans (if_neg (by omega))
  · intro s v ops rest hp hh hi
    have hrun := run_ldTs ops rest v hp
    rw [withHost_self hh hi] at hrun
    exact hrun

end Sys2Proof.Machine
end

section
/-! PROOFS. Bytes and groups of five as slices of a bit string, and what the filter leaves of a secret (R69 to R71). -/

namespace Sys2Proof.Machine

/-! ### Bit strings -/

theorem bitsMsb_mod (k x : Nat) : bitsMsb k (x % 2 ^ k) = bitsMsb k x := by
  refine List.map_congr_left fun i hi => ?_
  have := List.mem_range.1 hi
  rw [Nat.testBit_mod_two_pow, decide_eq_true (by omega), Bool.true_and]

/-- The bits of the value read are the bits read. -/
theorem bitsMsb_ofBitsMsb (l : List Bool) : bitsMsb l.length (ofBitsMsb l) = l := by
  induction l using List.reverseRecOn with
  | nil => rfl
  | append_singleton l b ih =>
    have hhigh : (2 * ofBitsMsb l + b.toNat) / 2 ^ 1 = ofBitsMsb l := by cases b <;> simp; omega
    have hlow : bitsMsb 1 (2 * ofBitsMsb l + b.toNat) = [b] := by cases b <;> simp [bitsMsb, Nat.testBit_zero]
    rw [ofBitsMsb_append_one, List.length_append, List.length_singleton, ← bitsMsb_append, hhigh, ih, hlow]

/-- Induction over a bit string in groups of `k`: a string shorter than a group, and a group before the rest. -/
theorem bits_induction {k : Nat} (hk : 0 < k) {P : List Bool → Prop} (short : ∀ l, l.length < k → P l)
    (group : ∀ x r, P r → P (bitsMsb k x ++ r)) (l : List Bool) : P l := by
  induction hn : l.length using Nat.strong_induction_on generalizing l with
  | _ n ih =>
    by_cases hl : l.length < k
    · exact short l hl
    · have hgroup : bitsMsb k (ofBitsMsb (l.take k)) = l.take k := by
        have h := bitsMsb_ofBitsMsb (l.take k)
        rwa [List.length_take_of_le (by omega)] at h
      rw [← List.take_append_drop k l, ← hgroup]
      exact group _ _ (ih _ (by rw [← hn, List.length_drop]; omega) _ rfl)

/-! ### Bytes -/

@[simp] theorem bitsOfBytes_cons (x : Byte) (b : Bytes) :
    bitsOfBytes (x :: b) = bitsMsb 8 x.toNat ++ bitsOfBytes b := rfl

@[simp] theorem bitsOfBytes_length (b : Bytes) : (bitsOfBytes b).length = 8 * b.length := by
  simp [bitsOfBytes, List.length_flatMap, mul_comm]

/-- Slicing undoes the concatenation of the bytes' bits, whatever follows them. -/
theorem bytesOfBits_bitsOfBytes_append (b : Bytes) (r : List Bool) :
    bytesOfBits (bitsOfBytes b ++ r) = b ++ bytesOfBits r := by
  induction b with
  | nil => rfl
  | cons x b ih =>
    rw [bitsOfBytes_cons, List.append_assoc, bytesOfBits_cons, ih, BitVec.ofNat_toNat, BitVec.setWidth_eq,
      List.cons_append]

/-- The bytes sliced off hold all bits but those of the trailing group. -/
theorem bitsOfBytes_bytesOfBits (l : List Bool) : bitsOfBytes (bytesOfBits l) = l.take (8 * (l.length / 8)) := by
  induction l using bits_induction (k := 8) (by decide) with
  | short l hl => rw [bytesOfBits_short l hl, Nat.div_eq_of_lt hl]; rfl
  | group x r ih =>
    have hlen : 8 * ((bitsMsb 8 x ++ r).length / 8) = (bitsMsb 8 x).length + 8 * (r.length / 8) := by simp; omega
    rw [bytesOfBits_cons, bitsOfBytes_cons, ih, BitVec.toNat_ofNat, bitsMsb_mod, hlen, List.take_length_add_append]

theorem bytesOfBits_length (l : List Bool) : (bytesOfBits l).length = l.length / 8 := by
  have h := congrArg List.length (bitsOfBytes_bytesOfBits l)
  rw [bitsOfBytes_length, List.length_take] at h
  omega

/-- The trailing group has no effect on the bytes. -/
theorem bytesOfBits_take (l : List Bool) : bytesOfBits (l.take (8 * (l.length / 8))) = bytesOfBits l := by
  have h := bytesOfBits_bitsOfBytes_append (bytesOfBits l) []
  rwa [List.append_nil, bytesOfBits_short [] (by decide), List.append_nil, bitsOfBytes_bytesOfBits] at h

theorem bitsOfBytes_getElem? (b : Bytes) {j k : Nat} (hj : j < b.length) (hk : k < 8) :
    (bitsOfBytes b)[8 * j + k]? = some (b[j].getLsbD (7 - k)) := by
  induction b generalizing j with
  | nil => simp at hj
  | cons x b ih =>
    rw [bitsOfBytes_cons]
    cases j with
    | zero =>
      rw [List.getElem?_append_left (by simp; omega), mul_zero, zero_add, bitsMsb_getElem? _ _ _ hk]
      rfl
    | succ j =>
      rw [List.getElem?_append_right (by simp; omega), bitsMsb_length, show 8 * (j + 1) + k - 8 = 8 * j + k by omega,
        ih (Nat.lt_of_succ_lt_succ hj)]
      rfl

/-! ### Groups of five -/

theorem groupsOf5_group (x : Nat) (r : List Bool) : groupsOf5 (bitsMsb 5 x ++ r) = x % 2 ^ 5 :: groupsOf5 r := by
  rw [← ofBitsMsb_bitsMsb 5 x]
  rfl

theorem groupsOf5_short {l : List Bool} (h0 : l ≠ []) (h : l.length < 5) :
    groupsOf5 l = [ofBitsMsb (l ++ List.replicate (5 - l.length) false)] := by
  unfold groupsOf5
  split
  · simp at h; omega
  · contradiction
  · rfl

/-- The groups are indexes, and their bits are the string's and the zeros that pad its last group. -/
theorem groupsOf5_spec (l : List Bool) :
    (∀ v ∈ groupsOf5 l, v < 32) ∧
      ∃ p < 5, (groupsOf5 l).flatMap (bitsMsb 5) = l ++ List.replicate p false := by
  induction l using bits_induction (k := 5) (by decide) with
  | short l hl =>
    by_cases h0 : l = []
    · subst h0
      exact ⟨by simp [groupsOf5], 0, by decide, rfl⟩
    · have hpos := List.length_pos_iff.2 h0
      have hlen : (l ++ List.replicate (5 - l.length) false).length = 5 := by simp; omega
      have hlt := ofBitsMsb_lt (l ++ List.replicate (5 - l.length) false)
      have hbits := bitsMsb_ofBitsMsb (l ++ List.replicate (5 - l.length) false)
      rw [hlen] at hlt hbits
      rw [groupsOf5_short h0 hl]
      exact ⟨by simpa using hlt, 5 - l.length, by omega, by simpa using hbits⟩
  | group x r ih =>
    obtain ⟨hlt, p, hp, hbits⟩ := ih
    rw [groupsOf5_group]
    refine ⟨List.forall_mem_cons.2 ⟨Nat.mod_lt _ (by decide), hlt⟩, p, hp, ?_⟩
    rw [List.flatMap_cons, hbits, bitsMsb_mod, List.append_assoc]

theorem groupsOf5_length (l : List Bool) : (groupsOf5 l).length = (l.length + 4) / 5 := by
  obtain ⟨-, p, hp, h⟩ := groupsOf5_spec l
  have hlen := congrArg List.length h
  simp [List.length_flatMap] at hlen
  omega

/-! ### The filter -/

theorem sanitizeChar_eq_none {c : Byte}
    (h : ¬ ((0x41 ≤ c.toNat ∧ c.toNat ≤ 0x5A) ∨ (0x61 ≤ c.toNat ∧ c.toNat ≤ 0x7A) ∨
      (0x32 ≤ c.toNat ∧ c.toNat ≤ 0x37))) : sanitizeChar c = none := by
  have hfold : foldCase c = c := if_neg fun hl => h (.inr (.inl hl))
  simp only [sanitizeChar, hfold]
  exact if_neg fun hk => h (hk.imp_right .inr)

theorem sanitizeChar_lower {c : Byte} (h : 0x61 ≤ c.toNat) (h' : c.toNat ≤ 0x7A) :
    sanitizeChar c = sanitizeChar (c - 0x20) := by
  have hfold : foldCase c = c - 0x20 := if_pos ⟨h, h'⟩
  have hupper : foldCase (c - 0x20) = c - 0x20 := if_neg (by bv_omega)
  simp only [sanitizeChar, hfold, hupper]

theorem sanitize_append (a b : Bytes) : sanitize (a ++ b) = sanitize a ++ sanitize b := List.filterMap_append

theorem sanitize_cons_none {c : Byte} (h : sanitizeChar c = none) (s : Bytes) : sanitize (c :: s) = sanitize s :=
  List.filterMap_cons_none h

theorem sanitize_cons_some {c u : Byte} (h : sanitizeChar c = some u) (s : Bytes) :
    sanitize (c :: s) = u :: sanitize s :=
  List.filterMap_cons_some h

theorem b32bits_cons_none {c : Byte} (h : sanitizeChar c = none) (s : Bytes) : b32bits (c :: s) = b32bits s := by
  rw [b32bits, sanitize_cons_none h, b32bits]

theorem b32bits_cons_some {c u : Byte} (h : sanitizeChar c = some u) (s : Bytes) :
    b32bits (c :: s) = bitsMsb 5 (b32val u) ++ b32bits s := by
  rw [b32bits, sanitize_cons_some h, List.flatMap_cons, b32bits]

theorem b32bits_length (s : Bytes) : (b32bits s).length = 5 * (sanitize s).length := by
  simp [b32bits, List.length_flatMap, mul_comm]

end Sys2Proof.Machine
end

section
/-! PROOFS. The serial unpacker, the decode as a function of the bit string, and DECODE (R71 to R74). -/

namespace Sys2Proof.Machine

/-! ### The serial unpacker -/

/-- Shifting five bits in appends them. -/
theorem bitsMsb_shiftIn (n acc : Nat) {v : Nat} (hv : v < 32) :
    bitsMsb (n + 5) (acc <<< 5 ||| v) = bitsMsb n acc ++ bitsMsb 5 v := by
  have hsum : acc <<< 5 ||| v = 2 ^ 5 * acc + v := by
    rw [← Nat.shiftLeft_add_eq_or_of_lt hv, Nat.shiftLeft_eq, mul_comm]
  have hhigh : (2 ^ 5 * acc + v) / 2 ^ 5 = acc := by omega
  have hlow : (2 ^ 5 * acc + v) % 2 ^ 5 = v := by omega
  rw [hsum, ← bitsMsb_append, hhigh, ← bitsMsb_mod 5, hlow]

/-- Eight bits or more give their first eight as a byte, and the masked rest. -/
theorem bytesOfBits_shiftOut {n : Nat} (h : 8 ≤ n) (acc : Nat) (r : List Bool) :
    bytesOfBits (bitsMsb n acc ++ r) =
      BitVec.ofNat 8 ((acc >>> (n - 8)) &&& 0xFF) ::
        bytesOfBits (bitsMsb (n - 8) (acc &&& ((1 <<< (n - 8)) - 1)) ++ r) := by
  obtain ⟨m, rfl⟩ := Nat.exists_eq_add_of_le h
  have hmask : acc &&& ((1 <<< m) - 1) = acc % 2 ^ m := by rw [Nat.one_shiftLeft, Nat.and_two_pow_sub_one_eq_mod]
  have hbyte : BitVec.ofNat 8 ((acc >>> m) &&& 0xFF) = BitVec.ofNat 8 (acc / 2 ^ m) := by
    rw [Nat.shiftRight_eq_div_pow, show 0xFF = 2 ^ 8 - 1 from rfl, Nat.and_two_pow_sub_one_eq_mod]
    exact BitVec.eq_of_toNat_eq (by simp)
  rw [Nat.add_sub_cancel_left, hmask, hbyte, bitsMsb_mod, ← bitsMsb_append, List.append_assoc, bytesOfBits_cons]

/-- The unpacker gives the bytes of the bits it holds and of those to come. -/
theorem b32unpack_eq_bytesOfBits (s : Bytes) (acc : Nat) {n : Nat} (hn : n < 8) :
    b32unpack acc n s = bytesOfBits (bitsMsb n acc ++ b32bits s) := by
  induction s generalizing acc n with
  | nil => exact (bytesOfBits_short _ (by simpa [b32bits, sanitize] using hn)).symm
  | cons c s ih =>
    cases hc : sanitizeChar c with
    | none => simp only [b32unpack, hc, ih acc hn, b32bits_cons_none hc]
    | some u =>
      obtain ⟨-, hv⟩ := sanitizeChar_kept hc
      rw [b32bits_cons_some hc, ← List.append_assoc, ← bitsMsb_shiftIn n acc hv]
      simp only [b32unpack, hc]
      split
      · next h8 => rw [ih _ (by omega), bytesOfBits_shiftOut h8]
      · next h8 => exact ih _ (by omega)

theorem b32decode_eq_bytesOfBits (s : Bytes) : b32decode s = bytesOfBits (b32bits s) :=
  b32unpack_eq_bytesOfBits s 0 (by decide)

theorem b32decode_length (s : Bytes) : (b32decode s).length = 5 * (sanitize s).length / 8 := by
  rw [b32decode_eq_bytesOfBits, bytesOfBits_length, b32bits_length]

theorem b32decode_eq_nil_iff (s : Bytes) : b32decode s = [] ↔ (sanitize s).length ≤ 1 := by
  rw [← List.length_eq_zero_iff, b32decode_length]
  omega

theorem bitsOfBytes_b32decode (s : Bytes) :
    bitsOfBytes (b32decode s) = (b32bits s).take (8 * (5 * (sanitize s).length / 8)) := by
  rw [b32decode_eq_bytesOfBits, bitsOfBytes_bytesOfBits, b32bits_length]

/-- Settles O40: a bit of the decode is a bit of its bytes' string, which is the start of the rule's (R71). -/
theorem unpackerMatchesBitString : Obligations.UnpackerMatchesBitString := by
  refine fun s => ⟨b32decode_length s, fun j hj k => ?_, b32bits_length s, b32decode_eq_bytesOfBits s, rfl⟩
  have hbound : 8 * j + k.val < 8 * (5 * (sanitize s).length / 8) := by
    rw [b32decode_length] at hj
    omega
  rw [← bitsOfBytes_getElem? _ hj k.isLt, bitsOfBytes_b32decode, List.getElem?_take_of_lt hbound]

/-! ### What the decode depends on -/

theorem b32decode_congr {s s' : Bytes} (h : sanitize s = sanitize s') : b32decode s = b32decode s' := by
  simp only [b32decode_eq_bytesOfBits, b32bits, h]

theorem sanitize_remove {c : Byte} (h : sanitizeChar c = none) (a b : Bytes) :
    sanitize (a ++ c :: b) = sanitize (a ++ b) := by
  rw [sanitize_append, sanitize_cons_none h, sanitize_append]

theorem sanitize_replace {c d : Byte} (h : sanitizeChar c = sanitizeChar d) (a b : Bytes) :
    sanitize (a ++ c :: b) = sanitize (a ++ d :: b) := by
  simp only [sanitize, List.filterMap_append, List.filterMap_cons, h]

/-- Settles O43: a decode depends on the sanitized characters only (`b32decode_congr`); the index table is evaluated. -/
theorem filterDropsAndFolds : Obligations.FilterDropsAndFolds :=
  ⟨fun a b _ h => b32decode_congr (sanitize_remove (sanitizeChar_eq_none h) a b),
    fun a b _ h h' => b32decode_congr (sanitize_replace (sanitizeChar_lower h h') a b), by decide, by decide,
    sanitize_append⟩

/-! ### The encoding -/

theorem b32bits_map_b32char {vs : List Nat} (h : ∀ v ∈ vs, v < 32) :
    b32bits (vs.map b32char) = vs.flatMap (bitsMsb 5) := by
  induction vs with
  | nil => rfl
  | cons v vs ih =>
    obtain ⟨hv, hvs⟩ := List.forall_mem_cons.1 h
    obtain ⟨hkept, hval⟩ := b32char_kept v hv
    rw [List.map_cons, b32bits_cons_some hkept, hval, ih hvs, List.flatMap_cons]

theorem sanitize_append_padding (a : Bytes) (pads : Nat) :
    sanitize (a ++ List.replicate pads padChar) = sanitize a := by
  induction pads with
  | zero => simp
  | succ pads ih => rw [List.replicate_succ, sanitize_remove (by decide), ih]

/-- Settles O42: the bits of the encoding's characters are the bytes' and fewer than eight zeros, which give no byte. -/
theorem decodeOfEncodingIsIdentity : Obligations.DecodeOfEncodingIsIdentity := by
  refine fun b pads => ⟨?_, by rw [b32encode, List.length_map, groupsOf5_length, bitsOfBytes_length]⟩
  obtain ⟨hlt, p, hp, hbits⟩ := groupsOf5_spec (bitsOfBytes b)
  calc b32decode (b32encode b ++ List.replicate pads padChar)
      = b32decode (b32encode b) := b32decode_congr (sanitize_append_padding _ _)
    _ = bytesOfBits (bitsOfBytes b ++ List.replicate p false) := by
      rw [b32decode_eq_bytesOfBits, b32encode, b32bits_map_b32char hlt, hbits]
    _ = b := by rw [bytesOfBits_bitsOfBytes_append, bytesOfBits_short _ (by simp; omega), List.append_nil]

/-! ### DECODE -/

theorem status_decodeSecret (s : State) : (complete .none (decodeSecret s)).status = { s.status with
    busy := false, done := true, err := 0
    invfmt := s.status.invfmt || (decide (0 < s.secretLen.toNat) && (b32decode (secretText s)).isEmpty) } := by
  have hempty : ((b32decode (secretText s)).length == 0) = (b32decode (secretText s)).isEmpty := by
    cases b32decode (secretText s) <;> rfl
  rw [← hempty]
  rfl

/-- Settles O41: the trailing group has no effect on the bytes (`bytesOfBits_take`). -/
theorem decodedLengthIsFloor : Obligations.DecodedLengthIsFloor := by
  refine ⟨fun s => ⟨b32decode_length s, b32decode_eq_nil_iff s⟩, fun s s' hlen hbits => ?_, fun s _ hfit => ?_⟩
  · rw [b32decode_eq_bytesOfBits, b32decode_eq_bytesOfBits, ← bytesOfBits_take (b32bits s),
      ← bytesOfBits_take (b32bits s'), b32bits_length, b32bits_length, hbits, hlen]
  · have hf := secretTooLong_eq_false.2 hfit
    exact ⟨decodedKey_length_le hf, _, exec_decode_fits hf, status_decodeSecret s⟩

theorem keyLen_loadKey {s : State} {k : Bytes} (hcap : Config.legalCap s.secretCap = true)
    (hk : k.length ≤ Config.keyCap s.secretCap) : (loadKey k s).keyLen.toNat = k.length := by
  have := keyCap_le hcap
  rw [loadKey_keyLen, BitVec.toNat_ofNat]
  omega

/-- The request's key after a load is the key loaded, without the zeros that fill KEY_BUF. -/
theorem requestKey_loadKey {s : State} {k : Bytes} (hcap : Config.legalCap s.secretCap = true)
    (hk : k.length ≤ Config.keyCap s.secretCap) : requestKey (loadKey k s) = k := by
  rw [requestKey, keyLen_loadKey hcap hk, loadKey_keyBuf, List.take_left]

/-- Settles O44: DECODE loads the key (`keyLen_loadKey`, `requestKey_loadKey`) and completes. -/
theorem decodeLoadsTheKey : Obligations.DecodeLoadsTheKey := by
  intro s hinv hfit
  have hf := secretTooLong_eq_false.2 hfit
  have hx := exec_decode_fits hf
  have hk := decodedKey_length_le hf
  obtain ⟨hinputs, hports, hflags⟩ := exec_frame hx
  rw [← b32decode_eq_bytesOfBits]
  exact ⟨_, _, hx, rfl, rfl, (registersOk_decodeSecret hinv.registersOk hf).keyBufLength,
    keyLen_loadKey hinv.capLegal hk, requestKey_loadKey hinv.capLegal hk,
    congrArg Status.invfmt (status_decodeSecret s), completed_complete .none _, hflags, hinputs, hports,
    ⟨rfl, rfl, rfl⟩, ⟨rfl, rfl, rfl, rfl⟩, rfl, ⟨rfl, rfl⟩, ⟨rfl, rfl⟩, hinputs.readChar_eq⟩

end Sys2Proof.Machine
end

section
/-! PROOFS. The timestamp a command samples and keeps, COUNTER, and PACK (R75 to R79). -/

namespace Sys2Proof.Machine

open Sys2Proof.Spec

/-! ### SampleTime -/

theorem sampleTime_driven {s : State} {now : Stamp} (h : s.nowSec = some now) : sampleTime false s = now := by
  simp [sampleTime, h]

/-- A sample of an undriven `now_sec` is the free value of the draw, and takes the draw (R75, log 6). -/
theorem sampleTime_undriven {s : State} (h : s.nowSec = none) :
    sampleTime false s = Config.freeTime s.draws ∧ sampleDraws false s = true := by
  simp [sampleTime, sampleDraws, h]

theorem accept_encode_timed {i : Instr} (h : usesTime i = true) (s : State) :
    accept (encode i) s = enterExec i (latchTime i.fields.tsel (offer (encode i) s)) := by
  rw [accept_cmd (decodeWord_encode i), acceptInstr_timed h]

theorem accept_encode_untimed {i : Instr} (h : usesTime i = false) (s : State) :
    accept (encode i) s = enterExec i (offer (encode i) s) := by
  rw [accept_cmd (decodeWord_encode i), acceptInstr_untimed h]

/-! ### T_LAT under a step -/

theorem InputWrite.tLat {cap : Nat} {v : Word} {f : State → State} (h : InputWrite cap v f) (s : State) :
    (f s).tLat = s.tLat := by
  rcases h with rfl | rfl | rfl | ⟨w, _, rfl⟩ <;> rfl

/-- Only an acceptance and a reset write T_LAT (R76). -/
theorem step_tLat {s t : State} (h : step s = .next t) (ha : ¬ accepts s) (hr : ¬ resets s) : t.tLat = s.tLat := by
  cases step_effect h with
  | quiet hq => exact hq.tLat
  | exec u i hq _ _ _ he => exact (exec_frame he).ports.tLat.trans hq.tLat
  | response u a hq _ ho hx => exact (respond_frame (hq.outstanding.trans ho) hx).ports.tLat.trans hq.tLat
  | dropped u off v ops rest hq _ _ _ _ ht => exact ht ▸ hq.tLat
  | accepted u w _ ha' _ => exact absurd ha' ha
  | written u v f hq _ hf ht => exact ht ▸ (hf.tLat u).trans hq.tLat
  | reset u _ hr' _ => exact absurd hr' hr

/-- Settles O35: Accept latches SampleTime(tsel) for a time command, and no later step writes T_LAT (`step_tLat`). -/
theorem timestampIsSampledOnceAtAccept : Obligations.TimestampIsSampledOnceAtAccept := by
  refine ⟨fun s i hi => ?_, fun s i hi => ?_, fun s t => step_tLat⟩
  · rw [accept_encode_timed hi]
    refine ⟨fun hsel => ?_, fun now hsel hnow => ?_, fun hsel hnow => ?_⟩ <;> rw [hsel]
    · rfl
    · exact sampleTime_driven (s := offer (encode i) s) hnow
    · obtain ⟨hfree, hdraw⟩ := sampleTime_undriven (s := offer (encode i) s) hnow
      exact ⟨hfree, if_pos hdraw⟩
  · rw [accept_encode_untimed hi]
    rfl

/-! ### COUNTER -/

theorem exec_counter_or_counterTs {i : Instr} (hi : i = .counter ∨ i = .counterTs) (s : State) :
    exec i s = .next (complete .none (countTime s)) := by
  rcases hi with rfl | rfl
  · exact exec_counter s
  · exact exec_counterTs s

/-- Settles O36: the stage writes TS_USED and COUNTER (`timeCounter_toNat`, `timeCounter_le`), Complete the rest. -/
theorem counterIsFloorOfThirtySeconds : Obligations.CounterIsFloorOfThirtySeconds := by
  intro s i hi
  have hx := exec_counter_or_counterTs hi s
  obtain ⟨hinputs, hports, hflags⟩ := exec_frame hx
  exact ⟨_, hx, rfl, timeCounter_toNat s.tLat, timeCounter_le s.tLat, completed_complete .none _, hflags, rfl, rfl,
    hinputs, hports, ⟨rfl, rfl⟩, ⟨rfl, rfl, rfl, rfl⟩, rfl, ⟨rfl, rfl⟩, ⟨rfl, rfl⟩, hinputs.readChar_eq⟩

/-! ### PACK -/

/-- The bytes of a counter are its digits to the base 256 (R78). -/
theorem counterByte_toNat (c : Stamp) (i : Nat) : (counterByte c i).toNat = c.toNat / 256 ^ i % 256 := by
  rw [counterByte, BitVec.extractLsb'_toNat, Nat.shiftRight_eq_div_pow, pow_mul]
  rfl

theorem be64_getElem (c : Stamp) (i : Fin 8) : (be64 c)[7 - i.val] = counterByte c i.val := by
  fin_cases i <;> rfl

/-- Reading the packed bytes most significant first gives the counter back (R78). -/
theorem foldl_be64 (c : Stamp) : (be64 c).toList.foldl (fun v b => 256 * v + b.toNat) 0 = c.toNat := by
  have hlt := c.isLt
  simp only [be64, Vector.toList_mk, List.foldl_cons, List.foldl_nil, counterByte_toNat]
  omega

/-- Settles O37: be64 lists the counter's digits to the base 256, the highest first, and PACK writes MSG only. -/
theorem packWritesTheCounterBigEndian : Obligations.PackWritesTheCounterBigEndian := by
  refine ⟨fun c => ⟨fun i => ?_, rfl, rfl, foldl_be64 c⟩, fun s => ?_⟩
  · rw [be64_getElem, counterByte_toNat]
  · have hx := exec_pack s
    obtain ⟨hinputs, hports, hflags⟩ := exec_frame hx
    exact ⟨_, hx, rfl, completed_complete .none _, hflags, rfl, rfl, rfl, hinputs, hports, ⟨rfl, rfl⟩,
      ⟨rfl, rfl, rfl, rfl⟩, rfl, ⟨rfl, rfl⟩, ⟨rfl, rfl⟩, hinputs.readChar_eq⟩

end Sys2Proof.Machine
end

section
/-! PROOFS. The provider's response: HMAC and its completion, the conforming provider, Zeroize (R80 to R86). -/

namespace Sys2Proof.Machine

open Sys2Proof.Spec

/-! ### HMAC's request and its frame -/

/-- The port names the length of KEY_BUF[0 .. KEY_LEN), which is KEY_LEN because KEY_LEN does not pass KEY_CAP. -/
theorem State.Inv.requestKey_length {s : State} (h : s.Inv) : (requestKey s).length = s.keyLen.toNat :=
  List.length_take_of_le (h.keyBufLength ▸ h.keyLenBound)

/-- HMAC's completion writes no result but DIGEST and the key, and neither INVFMT nor the port (R85). -/
theorem finishHmac_frame (a : Answer) (s : State) :
    SameRequest s (finishHmac a s) ∧ SameCounters s (finishHmac a s) ∧ SameView s (finishHmac a s) ∧
    (finishHmac a s).offset = s.offset ∧ (finishHmac a s).bincode = s.bincode ∧ (finishHmac a s).code = s.code ∧
    (finishHmac a s).codeStr = s.codeStr ∧ (finishHmac a s).status.invfmt = s.status.invfmt := by
  cases a
  all_goals exact ⟨⟨rfl, rfl⟩, ⟨rfl, rfl, rfl⟩, ⟨rfl, rfl⟩, rfl, rfl, rfl, rfl, rfl⟩

theorem CommandFrame.trans {s u t : State} (h : CommandFrame s u) (h' : CommandFrame u t) : CommandFrame s t where
  inputs := h.inputs.trans h'.inputs
  ports :=
    ⟨h'.ports.tLat.trans h.ports.tLat, h'.ports.nowSec.trans h.ports.nowSec, h'.ports.readData.trans h.ports.readData,
      h'.ports.host.trans h.ports.host, h'.ports.inputs.trans h.ports.inputs, h'.ports.draws.trans h.ports.draws⟩
  flags := ⟨h'.flags.ovr.trans h.flags.ovr, h'.flags.lastop.trans h.flags.lastop⟩

/-! ### A response in WAIT -/

/-- A step that takes a provider's answer is the response to it. -/
theorem step_answers {s : State} {a : Answer} (h : answers s a) : step s = respond a (popped s) := by
  rcases h with ⟨rest, hi⟩ | ⟨rest, r, hi, hr, rfl⟩ <;> rw [step_move hi, popped, hi, List.tail_cons]
  · rfl
  · exact act_respondHmac (s := { s with inputs := rest }) hr

/-- In WAIT a response is admitted, and a command awaits it (R81). -/
theorem respond_wait {s : State} (hinv : s.Inv) (hp : s.phase = .wait) (a : Answer) : ∃ t, respond a s = .next t := by
  have ho := hinv.outstandingIff.2 hp
  obtain ⟨i, hc, rfl | hi⟩ := hinv.waitCur hp
  · exact ⟨_, act_respond_hmac a ho hc⟩
  · exact ⟨_, act_respond_generate a ho hi hc⟩

/-- An admitted response clears the key, whatever it is, and writes DIGEST on OK only (R85, R86, R97). -/
theorem respond_key_digest {s t : State} {a : Answer} (ho : s.outstanding = true) (h : respond a s = .next t) :
    Zeroized t ∧ (∀ d, a = .ok d → t.digest = d) ∧ (a = .unavailable → t.digest = s.digest) := by
  rcases respond_next ho h with rfl | rfl <;> cases a with
  | ok d => exact ⟨⟨rfl, rfl⟩, fun _ ha => Answer.ok.inj ha, nofun⟩
  | unavailable => exact ⟨⟨rfl, rfl⟩, nofun, fun _ => rfl⟩

/-! ### The command HMAC -/

/-- Settles O46: the request is the registers' (`requestKey_length`), and the response completes the command
(`respond_completed`, `respond_key_digest`) with the frame of both steps. -/
theorem hmacRequestsAndCompletes : Obligations.HmacRequestsAndCompletes := by
  intro s d a hinv hc _
  have hact := act_respond_hmac (s := hmacRequest s) a rfl hc
  have hcompleted := respond_completed rfl hact
  obtain ⟨hzero, hok, hun⟩ := respond_key_digest rfl hact
  obtain ⟨hinputs, hports, hflags⟩ := (exec_frame (exec_hmac s)).trans (respond_frame rfl hact)
  obtain ⟨⟨hout, hport⟩, ⟨htsUsed, hcounter, hmsg⟩, ⟨hsecs, hratio⟩, hoffset, hbincode, hcode, hcodeStr, hinvfmt⟩ :=
    finishHmac_frame a (takeResponse (hmacRequest s))
  refine ⟨_, _, exec_hmac s, rfl, rfl, rfl, hc, ?_, rfl, hact, fun ha => ⟨hok d ha, ?_⟩, fun ha => ⟨hun ha, ?_⟩, hzero,
    hout, hport, hflags, hinvfmt, hoffset, hbincode, hcode, hcodeStr, hinputs, hports, ⟨htsUsed, hcounter, hmsg⟩,
    ⟨hsecs, hratio⟩, hinputs.readChar_eq⟩
  · rw [hmacRequest_portReq, hinv.requestKey_length, requestKey]
  · rwa [if_neg (by simp [ha])] at hcompleted
  · rwa [if_pos ha] at hcompleted

/-! ### A conforming provider, and Zeroize -/

/-- In WAIT a conforming provider answers HMAC_FN of the key and the message registers, which the port holds (R82). -/
theorem answers_respondHmac {s : State} {rest : List Move} (hinv : s.Inv) (hp : s.phase = .wait)
    (hi : s.inputs = .respondHmac :: rest) : answers s (.ok (Config.hmacFn (requestKey s) s.msg)) :=
  .inr ⟨rest, requestOf s, hi, by rw [hinv.portAgrees, if_pos (hinv.outstandingIff.2 hp)], rfl⟩

/-- Settles O47: the step takes the answer HMAC_FN of the registers (`answers_respondHmac`), which completes with 0. -/
theorem conformingProviderAnswersHmacFn : Obligations.ConformingProviderAnswersHmacFn := by
  intro s rest hinv hp hi
  have hpop := inv_quiet hinv (quiet_popped s)
  have ho := hpop.outstandingIff.2 hp
  obtain ⟨t, ht⟩ := respond_wait hpop hp (.ok (Config.hmacFn (requestKey s) s.msg))
  obtain ⟨_, hdigest, _⟩ := respond_key_digest ho ht
  have hin : t.inputs = s.inputs.tail := (respond_frame ho ht).ports.inputs
  refine ⟨t, (step_answers (answers_respondHmac hinv hp hi)).trans ht, hdigest _ rfl, respond_completed ho ht, ?_⟩
  rw [hin, hi, List.tail_cons]

/-- Settles O48: any answer in WAIT is an admitted response (`step_answers`, `respond_key_digest`). -/
theorem keyIsClearedAtCompletion : Obligations.KeyIsClearedAtCompletion := by
  refine ⟨fun _ => rfl, fun s t a hinv hp ha h => ?_⟩
  have ho := (inv_quiet hinv (quiet_popped s)).outstandingIff.2 hp
  rw [step_answers ha] at h
  exact ⟨(respond_completed ho h).phase, respond_key_digest (s := popped s) ho h⟩

/-! ### A response that nothing awaits -/

/-- A response with OUTSTANDING = 0 is not admitted (R84). -/
theorem step_respond_stray {s : State} {a : Answer} {rest : List Move} (ho : s.outstanding = false)
    (hi : s.inputs = .respond a :: rest) : step s = .next { s with inputs := rest } := by
  rw [step_move hi]
  exact if_neg (by simp [ho])

/-- Settles O13: reset clears OUTSTANDING, so the response after it is a stray one (`step_respond_stray`). -/
theorem strayResponseHasNoEffect : Obligations.StrayResponseHasNoEffect :=
  ⟨fun _ _ _ => step_respond_stray, fun _ _ _ _ hi => ⟨_, step_move hi, rfl, rfl, step_respond_stray rfl rfl⟩⟩

end Sys2Proof.Machine
end

section
/-! PROOFS. The dynamic truncator: the window and its formulas (R87 to R89), the decimal string (R90), TRUNC (R91), and
which steps write the sentinel (R92). -/

namespace Sys2Proof.Machine

/-! ### Offset, binary code and code -/

theorem and_lowNibble_toNat (x : Byte) : (x &&& 0x0F).toNat = x.toNat % 16 :=
  Nat.and_two_pow_sub_one_eq_mod x.toNat 4

theorem truncOffset_toNat (d : Digest) : (truncOffset d).toNat = d[19].toNat % 16 := BitVec.toNat_setWidth _ _

/-- The binary code lists the four bytes of the window at the offset, the first without its top bit (R88). -/
theorem binaryCode_window {d : Digest} {o : Fin 16} (h : (truncOffset d).toNat = o.val) :
    binaryCode d = d[o.val].setWidth 7 ++ d[o.val + 1] ++ d[o.val + 2] ++ d[o.val + 3] := by
  obtain rfl : o = (truncOffset d).toFin := Fin.ext h.symm
  rfl

/-- The source's formula is the value of the four parts one after another (R88). -/
theorem window_toNat (a b c e : Byte) :
    (a.setWidth 7 ++ b ++ c ++ e).toNat =
      ((a.toNat &&& 0x7F) <<< 24 ||| (b.toNat &&& 0xFF) <<< 16 ||| (c.toNat &&& 0xFF) <<< 8 ||| (e.toNat &&& 0xFF)) := by
  have byte : ∀ x : Byte, x.toNat &&& 0xFF = x.toNat := fun x =>
    (Nat.and_two_pow_sub_one_eq_mod x.toNat 8).trans (Nat.mod_eq_of_lt x.isLt)
  have low : a.toNat &&& 0x7F = a.toNat % 2 ^ 7 := Nat.and_two_pow_sub_one_eq_mod a.toNat 7
  simp only [byte, low, BitVec.toNat_append, BitVec.toNat_setWidth, Nat.shiftLeft_or_distrib, ← Nat.shiftLeft_add]

/-- The window ends at 18, so of d[19] only the offset enters the binary code (R87). -/
theorem binaryCode_set_last {d : Digest} {x : Byte} (h : x &&& (0x0F : Byte) = d[19] &&& (0x0F : Byte)) :
    binaryCode (d.set 19 x) = binaryCode d := by
  have ho : truncOffset (d.set 19 x) = truncOffset d := by
    apply BitVec.eq_of_toNat_eq
    rw [truncOffset_toNat, truncOffset_toNat, Vector.getElem_set_self, ← and_lowNibble_toNat, h, and_lowNibble_toNat]
  have keep : ∀ k, (hk : k < 19) → (d.set 19 x)[k] = d[k] := fun k hk =>
    Vector.getElem_set_ne _ _ (Nat.ne_of_gt hk)
  rw [binaryCode_window (o := (truncOffset d).toFin) (congrArg BitVec.toNat ho),
    binaryCode_window (d := d) (o := (truncOffset d).toFin) rfl, keep, keep, keep, keep] <;> omega

theorem codeOf_toNat_le (b : BitVec 31) : (codeOf b).toNat ≤ 999999 := by
  rw [codeOf_toNat]
  omega

/-- Settles O50: the bytes of the window (`binaryCode_window`), their value (`window_toNat`), and what d[19] has no part
in (`binaryCode_set_last`). -/
theorem truncationFollowsTheFormulas : Obligations.TruncationFollowsTheFormulas := by
  intro d
  refine ⟨(truncOffset d).toFin, rfl, (truncOffset_toNat d).symm,
    (and_lowNibble_toNat _).trans (truncOffset_toNat d).symm, ?_, ?_, ?_, fun x => binaryCode_set_last,
    codeOf_toNat _, codeOf_toNat_le _⟩
  · rw [binaryCode_window (d := d) (o := (truncOffset d).toFin) rfl, window_toNat]
  · exact Nat.le_of_lt_succ (binaryCode d).isLt
  · exact Nat.add_le_add_right (Nat.le_of_lt_succ (truncOffset d).isLt) 3

/-! ### The decimal string -/

theorem digitChar_toNat (n k : Nat) : (digitChar n k).toNat = 0x30 + n / 10 ^ k % 10 := by
  rw [digitChar, BitVec.toNat_ofNat]
  omega

/-- Character i from the left has weight 10^(5 - i) (R90). -/
theorem fmt6_getElem (n : Nat) (i : Fin 6) : (fmt6 n)[i.val] = digitChar n (5 - i.val) := by
  fin_cases i <;> rfl

theorem fmt6_getElem_isDigit (n : Nat) (i : Fin 6) :
    0x30 ≤ (fmt6 n)[i.val].toNat ∧ (fmt6 n)[i.val].toNat ≤ 0x39 := by
  rw [fmt6_getElem, digitChar_toNat]
  omega

/-- Reading the string most significant digit first gives the number back. -/
theorem foldl_fmt6 {n : Nat} (h : n ≤ 999999) :
    (fmt6 n).toList.foldl (fun v c => 10 * v + (c.toNat - 0x30)) 0 = n := by
  simp only [fmt6, Vector.toList_mk, List.foldl_cons, List.foldl_nil, digitChar_toNat]
  omega

/-- Settles O51: the character of each weight (`fmt6_getElem`), its range, and reading back (`foldl_fmt6`). -/
theorem codeStringIsSixDecimalDigits : Obligations.CodeStringIsSixDecimalDigits := by
  refine ⟨fun n hn => ⟨fun i => ?_, fmt6_getElem_isDigit n, foldl_fmt6 hn, rfl⟩, by decide⟩
  have hi : 5 - (5 - i.val) = i.val := Nat.sub_sub_self (Nat.le_of_lt_succ i.isLt)
  rw [fmt6_getElem n ⟨5 - i.val, by omega⟩, digitChar_toNat, hi]

/-! ### TRUNC -/

/-- Settles O52: the stage writes the four registers (`truncOffset_toNat`, `codeOf_toNat`), Complete the rest. -/
theorem truncWritesTheCode : Obligations.TruncWritesTheCode := by
  intro s
  have hx := exec_trunc s
  obtain ⟨hinputs, hports, hflags⟩ := exec_frame hx
  exact ⟨_, hx, truncOffset_toNat s.digest, rfl, codeOf_toNat _, congrArg fmt6 (codeOf_toNat _),
    completed_complete .none _, hflags, rfl, rfl, hinputs, hports, ⟨rfl, rfl, rfl⟩, ⟨rfl, rfl⟩, ⟨rfl, rfl⟩, ⟨rfl, rfl⟩,
    hinputs.readChar_eq⟩

/-! ### The sentinel -/

/-- The sentinel's 0x2D is below every digit (R92). -/
theorem fmt6_ne_sentinel (n : Nat) : fmt6 n ≠ sentinel := fun h => by
  have hdigit := (fmt6_getElem_isDigit n 0).1
  rw [h] at hdigit
  exact absurd hdigit (by decide)

theorem accept_codeStr (w : Word) (s : State) : (accept w s).codeStr = s.codeStr := by
  cases hd : decodeWord w with
  | cmd i => rw [accept_cmd hd]; unfold acceptInstr; split <;> rfl
  | illegal r => rw [accept_illegal hd]; rfl

/-- Everything a step from `s` to `t` can do to CODE_STR (R35, R91, R92, R97, R98). -/
inductive CodeStrEffect (s t : State) : Prop where
  | kept (h : t.codeStr = s.codeStr)
  | cleared (h : t.codeStr = Vector.replicate 6 0)
  | digits (n : Nat) (h : t.codeStr = fmt6 n)
  | failed (hc : s.cur = some .generate ∨ s.cur = some .generateTs) (hd : t.status.done = true)
      (he : t.status.err ≠ 0)

/-- A completion of GENERATE with an error is a failed one (R98, R101). -/
theorem CodeStrEffect.of_error {s u : State} {e : Err} (hc : s.cur = some .generate ∨ s.cur = some .generateTs)
    (he : errCode e ≠ 0) : CodeStrEffect s (complete e u) :=
  .failed hc rfl he

theorem exec_codeStr {i : Instr} {s t : State} (hc : s.cur = some i) (h : exec i s = .next t) : CodeStrEffect s t := by
  cases executed_of_exec h with
  | trunc => exact .digits _ rfl
  | generateTooLong => exact .of_error (.inl hc) (by decide)
  | generateTsTooLong => exact .of_error (.inr hc) (by decide)
  | _ => exact .kept rfl

theorem respond_codeStr {s t : State} {a : Answer} (h : respond a s = .next t) : CodeStrEffect s t := by
  rcases respond_cases a s with ⟨_, hr⟩ | ⟨_, _, hr⟩ | ⟨_, hc, hr⟩ | ⟨_, _, hr⟩ <;> rw [hr] at h <;> cases h
  · exact .kept rfl
  · cases a <;> exact .kept rfl
  · cases a with
    | ok d => exact .digits _ rfl
    | unavailable => exact .of_error hc (by decide)

/-- A change of the fields that are no registers before a step leaves what the step does to CODE_STR. -/
theorem CodeStrEffect.of_quiet {s u t : State} (hq : Quiet s u) (h : CodeStrEffect u t) : CodeStrEffect s t := by
  cases h with
  | kept h => exact .kept (h.trans hq.sameResults.codeStr)
  | cleared h => exact .cleared h
  | digits n h => exact .digits n h
  | failed hc hd he => exact .failed (hq.cur ▸ hc) hd he

theorem step_codeStr {s t : State} (h : step s = .next t) : CodeStrEffect s t := by
  cases step_effect h with
  | quiet hq => exact .kept hq.sameResults.codeStr
  | exec u i hq _ _ hc he => exact .of_quiet hq (exec_codeStr (hq.cur.trans hc) he)
  | response u a hq _ _ hr => exact .of_quiet hq (respond_codeStr hr)
  | dropped u off v ops rest hq _ _ _ _ ht => exact ht ▸ .kept hq.sameResults.codeStr
  | accepted u w hq _ ht => exact ht ▸ .of_quiet hq (.kept (accept_codeStr w u))
  | written u v f hq _ hf ht => exact ht ▸ .kept (hf.sameResults hq).codeStr
  | reset u _ _ ht => exact ht ▸ .cleared rfl

/-- Settles O53: of what a step can do to CODE_STR (`step_codeStr`) only a failed GENERATE writes the sentinel. -/
theorem sentinelOnlyFromFailedGenerate : Obligations.SentinelOnlyFromFailedGenerate := by
  refine ⟨rfl, fmt6_ne_sentinel, fmt6_getElem_isDigit, fun s t h => ?_, fun s t _ h hs ht => ?_⟩
  · obtain rfl := Host.Outcome.next.inj ((exec_trunc s).symm.trans h)
    exact fmt6_ne_sentinel _
  · cases step_codeStr h with
    | kept h => exact absurd (h.symm.trans ht) hs
    | cleared h => exact absurd (h.symm.trans ht) (by decide)
    | digits n h => exact absurd (h.symm.trans ht) (fmt6_ne_sentinel n)
    | failed hc hd he => exact ⟨hc, hd, he⟩

end Sys2Proof.Machine
end

section
/-! PROOFS. The timer view: the remaining seconds (R94), SECREM (R95) and RATIO (R96). -/

namespace Sys2Proof.Machine

/-! ### The remaining seconds -/

/-- The remaining seconds reach the start of the next counter value (R94). -/
theorem add_secrem (t : Stamp) : t.toNat + secrem t = 30 * (t.toNat / 30 + 1) := by
  unfold secrem Config.stepSeconds
  omega

/-- Settles O38: t + secrem(t) is the multiple of 30 after that of t (`add_secrem`). -/
theorem secremReachesTheNextStep : Obligations.SecremReachesTheNextStep := by
  intro t
  have hdef : secrem t = 30 - t.toNat % 30 := rfl
  have hmod : t.toNat % 30 < 30 := Nat.mod_lt _ (by decide)
  refine ⟨hdef, by omega, by omega, by omega, by omega, ?_, fun n hlt hn => ?_, ?_⟩
  · rw [add_secrem, Nat.mul_mod_right]
  · rw [add_secrem]
    omega
  · rw [add_secrem, Nat.mul_div_cancel_left _ (by decide)]

/-! ### SECREM and RATIO -/

theorem exec_secrem_or_secremTs {i : Instr} (hi : i = .secrem ∨ i = .secremTs) (s : State) :
    exec i s = .next (complete .none (viewSeconds s)) := by
  rcases hi with rfl | rfl
  · exact exec_secrem s
  · exact exec_secremTs s

theorem exec_ratio_or_ratioTs {i : Instr} (hi : i = .ratio ∨ i = .ratioTs) (s : State) :
    exec i s = .next (complete .none (viewRatio s)) := by
  rcases hi with rfl | rfl
  · exact exec_ratio s
  · exact exec_ratioTs s

theorem ratioWord_den (num : BitVec 5) : (ratioWord num).extractLsb' 8 5 = 30 := by
  simp only [ratioWord, BitVec.extractLsb'_append_eq_ite]
  simp

/-- RATIO.DEN reads 30 in every phase: its bits are no result bits (R37, R40). -/
theorem memRead_ratio_den (s : State) : (memRead s 0x04C).extractLsb' 8 5 = 30 := by
  have hbits : resultBits s.secretCap (regOf 0x04C) = 0x0000001F := rfl
  rw [memRead_extract_exact (by rw [hbits]; decide)]
  exact ratioWord_den s.ratioNum

/-- Settles O39: the two stages write TS_USED and one view register (`secrem_toNat`), Complete the rest, and DEN is
hardwired (`memRead_ratio_den`). -/
theorem timerViewShowsRemainingSeconds : Obligations.TimerViewShowsRemainingSeconds := by
  refine ⟨fun s i hi => ?_, fun s i hi => ?_⟩
  · have hx := exec_secrem_or_secremTs hi s
    obtain ⟨hinputs, hports, hflags⟩ := exec_frame hx
    exact ⟨_, hx, rfl, secrem_toNat s.tLat, rfl, completed_complete .none _, hflags, rfl, rfl, rfl, hinputs, hports,
      ⟨rfl, rfl⟩, ⟨rfl, rfl, rfl, rfl⟩, rfl, ⟨rfl, rfl⟩, hinputs.readChar_eq⟩
  · have hx := exec_ratio_or_ratioTs hi s
    obtain ⟨hinputs, hports, hflags⟩ := exec_frame hx
    exact ⟨_, hx, rfl, secrem_toNat s.tLat, rfl, memRead_ratio_den _, completed_complete .none _, hflags, rfl, rfl, rfl,
      hinputs, hports, ⟨rfl, rfl⟩, ⟨rfl, rfl, rfl, rfl⟩, rfl, ⟨rfl, rfl⟩, hinputs.readChar_eq⟩

end Sys2Proof.Machine
end

section
/-! PROOFS. GENERATE end to end: the request its EXEC step issues, what the response leaves, the failed forms, and what
the code depends on (R97 to R99). -/

namespace Sys2Proof.Machine

/-! ### The EXEC step of a secret that fits -/

/-- What GENERATE's EXEC step leaves of a state whose secret fits (`exec_generate_fits`): the key decoded, the counter
packed, the request on the port (R97). -/
def generateRequest (s : State) : State := hmacRequest (packCounter (countTime (decodeSecret s)))

theorem generateRequest_invfmt (s : State) : (generateRequest s).status.invfmt =
    (s.status.invfmt || (decide (0 < s.secretLen.toNat) && (b32decode (secretText s)).isEmpty)) :=
  congrArg Status.invfmt (status_decodeSecret s)

/-- Of STATUS the EXEC step writes INVFMT only (R73, R97). -/
theorem generateRequest_status (s : State) : (generateRequest s).status = { s.status with
    invfmt := s.status.invfmt || (decide (0 < s.secretLen.toNat) && (b32decode (secretText s)).isEmpty) } := by
  rw [← generateRequest_invfmt]
  rfl

theorem generateRequest_counter_toNat (s : State) : (generateRequest s).counter.toNat = s.tLat.toNat / 30 :=
  timeCounter_toNat s.tLat

section
variable {s : State} (hcap : Config.legalCap s.secretCap = true) (hf : secretTooLong s = false)
include hcap hf

theorem generateRequest_keyLen : (generateRequest s).keyLen.toNat = (b32decode (secretText s)).length :=
  keyLen_loadKey hcap (decodedKey_length_le hf)

/-- The counter and the packing stage keep the key DECODE loads. -/
theorem requestKey_generateRequest : requestKey (generateRequest s) = b32decode (secretText s) :=
  requestKey_loadKey hcap (decodedKey_length_le hf)

/-- The request names the decoded key, the empty one too, and the packed counter of T_LAT, and nothing else (R97). -/
theorem generateRequest_portReq : (generateRequest s).portReq =
    some ⟨.sha1, (b32decode (secretText s)).length, b32decode (secretText s), 8, be64 (timeCounter s.tLat)⟩ := by
  rw [← requestKey_generateRequest hcap hf]
  rfl

end

/-! ### A secret above SECRET_CAP, and the response -/

/-- GENERATE of a secret above SECRET_CAP writes the sentinel and completes (R98, R103). -/
theorem exec_generate_tooLong {s : State} {i : Instr} (hi : i = .generate ∨ i = .generateTs)
    (h : secretTooLong s = true) : exec i s = .next (complete .secretTooLong (setCodeStr sentinel s)) := by
  rcases hi with rfl | rfl <;> simp [generateStages_tooLong h]

/-- GENERATE's completion writes no counter, no view register, and neither INVFMT nor the port (R97, R98). -/
theorem finishGenerate_frame (a : Answer) (s : State) :
    SameRequest s (finishGenerate a s) ∧ SameCounters s (finishGenerate a s) ∧ SameView s (finishGenerate a s) ∧
    (finishGenerate a s).status.invfmt = s.status.invfmt := by
  cases a
  all_goals exact ⟨⟨rfl, rfl⟩, ⟨rfl, rfl, rfl⟩, ⟨rfl, rfl⟩, rfl⟩

/-- CODE_STR after the completion is the answer's alone. -/
theorem finishGenerate_codeStr_eq (a : Answer) (s s' : State) :
    (finishGenerate a s).codeStr = (finishGenerate a s').codeStr := by
  cases a <;> rfl

/-- So are CODE and BINCODE on OK; UNAVAILABLE leaves them as they were (R98). -/
theorem finishGenerate_code_eq {a : Answer} (ha : a ≠ .unavailable) (s s' : State) :
    (finishGenerate a s).code = (finishGenerate a s').code ∧
    (finishGenerate a s).bincode = (finishGenerate a s').bincode := by
  cases a with
  | ok d => exact ⟨rfl, rfl⟩
  | unavailable => exact absurd rfl ha

theorem sentinel_getElem (j : Fin 6) : sentinel[j.val] = 0x2D := by
  fin_cases j <;> rfl

/-- Settles O54: the request (`generateRequest_portReq`), then the truncation of the answer, with the frame of both
steps. -/
theorem generateDerivesTheCode : Obligations.GenerateDerivesTheCode := by
  intro s i d hinv hi hc hlen
  have hf := secretTooLong_eq_false.2 hlen
  have hx : exec i s = .next (generateRequest s) := exec_generate_fits hi hf
  have hact := act_respond_generate (s := generateRequest s) (.ok d) rfl hi hc
  obtain ⟨hzero, hdigest, _⟩ := respond_key_digest rfl hact
  obtain ⟨hinputs, hports, hflags⟩ := (exec_frame hx).trans (respond_frame rfl hact)
  obtain ⟨⟨hout, hport⟩, ⟨htsUsed, hcounter, hmsg⟩, ⟨hsecs, hratio⟩, hinvfmt⟩ :=
    finishGenerate_frame (.ok d) (takeResponse (generateRequest s))
  rw [← b32decode_eq_bytesOfBits]
  exact ⟨_, _, _, hx, rfl, rfl, rfl, generateRequest_portReq hinv.capLegal hf, rfl,
    generateRequest_keyLen hinv.capLegal hf, generateRequest_status s, rfl, generateRequest_counter_toNat s, rfl,
    ⟨rfl, rfl, rfl, rfl⟩, rfl, hact, respond_completed rfl hact, hzero, hdigest d rfl, truncOffset_toNat d, rfl,
    codeOf_toNat _, congrArg fmt6 (codeOf_toNat _), htsUsed, hcounter, hmsg, hinvfmt, hflags, hinputs, hports,
    ⟨hsecs, hratio⟩, hout, hport, hinputs.readChar_eq⟩

/-- Settles O55: a secret that is too long completes at once, with INVFMT still 0 as the invariant has it in EXEC;
UNAVAILABLE completes after the request's stages; and an idle core accepts (`memWrite_cmd`). -/
theorem failedGenerateLeavesTheSentinel : Obligations.FailedGenerateLeavesTheSentinel := by
  intro s i hinv hp hi hc
  refine ⟨fun hlong => ?_, fun hlen => ?_, fun t w j ht hd => ?_⟩
  · exact ⟨_, exec_generate_tooLong hi (secretTooLong_eq_true.2 hlong), completed_complete .secretTooLong _,
      sentinel_getElem, hinv.invfmtExec hp, ⟨rfl, rfl⟩, ⟨rfl, rfl, rfl⟩, ⟨rfl, rfl, rfl, rfl⟩⟩
  · have hf := secretTooLong_eq_false.2 hlen
    have hact := act_respond_generate (s := generateRequest s) .unavailable rfl hi hc
    obtain ⟨hzero, _, _⟩ := respond_key_digest rfl hact
    rw [← b32decode_eq_bytesOfBits]
    exact ⟨_, _, exec_generate_fits hi hf, requestKey_generateRequest hinv.capLegal hf, hact,
      respond_completed rfl hact, sentinel_getElem, hzero, rfl, generateRequest_counter_toNat s, rfl,
      generateRequest_invfmt s, ⟨rfl, rfl, rfl, rfl⟩⟩
  · rw [memWrite_cmd rfl ht]
    exact accept_cmd_cur hd t

/-- Settles O57: the request is a function of the secret's characters and T_LAT (`generateRequest_portReq`), and so is
COUNTER; the completion takes CODE_STR, CODE and BINCODE from the answer. -/
theorem codeDependsOnSecretAndTimeOnly : Obligations.CodeDependsOnSecretAndTimeOnly := by
  intro s s' i j a hinv hinv' hi hj hc hc' hlen hlen' htext hlat
  have hf := secretTooLong_eq_false.2 hlen
  have hf' := secretTooLong_eq_false.2 hlen'
  have hport : (generateRequest s).portReq = (generateRequest s').portReq := by
    rw [generateRequest_portReq hinv.capLegal hf, generateRequest_portReq hinv'.capLegal hf', htext, hlat]
  have hcounter : (generateRequest s).counter = (generateRequest s').counter := congrArg timeCounter hlat
  obtain ⟨_, kept, _, _⟩ := finishGenerate_frame a (takeResponse (generateRequest s))
  obtain ⟨_, kept', _, _⟩ := finishGenerate_frame a (takeResponse (generateRequest s'))
  exact ⟨_, _, _, _, exec_generate_fits hi hf, act_respond_generate (s := generateRequest s) a rfl hi hc,
    exec_generate_fits hj hf', act_respond_generate (s := generateRequest s') a rfl hj hc', hport,
    finishGenerate_codeStr_eq a _ _, kept.counter.trans (hcounter.trans kept'.counter.symm),
    fun ha => finishGenerate_code_eq ha _ _⟩

end Sys2Proof.Machine
end

section
/-! PROOFS. Dropped writes, illegal words, Accept and Complete as whole states, and the error completions of a secret
that is too long and of an unavailable primitive (R101 to R110). -/

namespace Sys2Proof.Machine

open Host (Outcome)
open Sys2Proof.Spec

/-! ### Writes while busy -/

/-- Settles O23: a write of a writable offset is dropped while busy, and any other write has no effect. -/
theorem writesWhileBusyAreDropped : Obligations.WritesWhileBusyAreDropped :=
  fun _ _ v => ⟨fun hp hw => memWrite_busy hw hp v, fun hw => memWrite_unwritable hw v⟩

/-! ### Accept as a whole state -/

/-- The opcodes that sample a timestamp are 0x02, 0x06, 0x07 and 0x08 (R75, R106). -/
theorem opc_mem_timed_iff (i : Instr) : i.fields.opc ∈ [0x02#8, 0x06#8, 0x07#8, 0x08#8] ↔ usesTime i = true := by
  cases i <;> decide

/-- SampleTime(tsel): TS_OVR, or `now_sec` with its free value where nothing drives it (R76). -/
theorem sampleTime_eq (tsel : Bool) (s : State) :
    sampleTime tsel s = if tsel then s.tsOvr else s.nowSec.getD (Config.freeTime s.draws) := by
  unfold sampleTime
  cases s.nowSec <;> rfl

theorem sampleDraws_iff (tsel : Bool) (s : State) : sampleDraws tsel s = true ↔ tsel = false ∧ s.nowSec = none := by
  simp [sampleDraws]

/-- Settles O26: the word has its command's opcode and TSEL, and a time command latches SampleTime (`sampleTime_eq`). -/
theorem acceptStartsTheCommand : Obligations.AcceptStartsTheCommand := by
  intro s w i hd
  have hopc : w.extractLsb' 0 8 = i.fields.opc := opcodeBits_of_decodeWord hd
  have htsel : w.getLsbD 8 = i.fields.tsel := congrArg Cmd32.tsel (ofWord_of_decodeWord hd)
  rw [accept_cmd hd, htsel]
  simp only [hopc, opc_mem_timed_iff]
  cases ht : usesTime i with
  | true =>
    simp only [true_and, if_true, ← sampleTime_eq, ← sampleDraws_iff]
    rw [acceptInstr_timed ht, ← hopc]
    rfl
  | false =>
    simp only [Bool.false_eq_true, false_and, if_false]
    rw [acceptInstr_untimed ht, ← hopc]
    rfl

/-! ### Complete, and an illegal word -/

/-- Settles O28: Complete writes the fields of `Completed` and no other, and an idle core accepts (`memWrite_cmd`). -/
theorem completeEndsTheCommand : Obligations.CompleteEndsTheCommand := by
  intro e s
  refine ⟨completed_complete e s, ⟨rfl, rfl⟩, rfl, rfl, fun w i hd => ?_⟩
  rw [memWrite_cmd (s := complete e s) rfl rfl]
  exact ⟨accept_cmd_phase hd _, accept_cmd_cur hd _⟩

theorem State.Inv.cur_eq_none {s : State} (h : s.Inv) (hp : s.phase = .idle) : s.cur = none :=
  Option.not_isSome_iff_eq_none.1 fun hc => h.curIff.1 hc hp

/-- Of an idle core with no command Complete writes STATUS only. -/
theorem complete_of_idle {s : State} (hp : s.phase = .idle) (hc : s.cur = none) (e : Err) :
    complete e s = { s with status := s.status.completed e } := by
  rw [complete, ← hp, ← hc]

/-- An idle core completes an illegal word as it is offered, and changes STATUS only (R102). -/
theorem accept_illegal_of_idle {s : State} {w : Word} (hinv : s.Inv) (hp : s.phase = .idle) (hw : ¬ legalWord w) :
    accept w s = { s with status := ⟨false, true, 2, false, false, w.extractLsb' 0 8⟩ } := by
  cases hd : decodeWord w with
  | cmd i => exact absurd ((legalWord_iff w).2 ⟨i, hd⟩) hw
  | illegal r =>
    rw [accept_illegal hd, complete_of_idle (s := offer w s) hp (hinv.cur_eq_none hp)]
    rfl

/-- The step that offers a word to an idle core (R42, R106). -/
theorem step_offer {s : State} {off : Offset} {w : Word} {ops : List HostStep} {rest : List Move}
    (hp : s.phase = .idle) (h0 : busAddr off = 0x000) (hi : s.inputs = .host :: rest)
    (hh : s.host = .write off w :: ops) : step s = .next (accept w { s with host := ops, inputs := rest }) := by
  rw [step_host_write hi hh, memWrite_cmd (s := { s with host := ops, inputs := rest }) h0 hp]

theorem step_illegal {s : State} {off : Offset} {w : Word} {ops : List HostStep} {rest : List Move} (hinv : s.Inv)
    (hp : s.phase = .idle) (h0 : busAddr off = 0x000) (hw : ¬ legalWord w) (hi : s.inputs = .host :: rest)
    (hh : s.host = .write off w :: ops) :
    step s =
      .next { s with host := ops, inputs := rest, status := ⟨false, true, 2, false, false, w.extractLsb' 0 8⟩ } := by
  have hinv' : State.Inv { s with host := ops, inputs := rest } := inv_quiet hinv ⟨_, _, _, _, _, rfl⟩
  rw [step_offer hp h0 hi hh, accept_illegal_of_idle hinv' hp hw]

theorem not_legalWord_nine : ¬ legalWord 0x00000009 := by
  unfold legalWord
  decide

theorem statusWord_illegal_nine :
    statusWord ⟨false, true, 2, false, false, (0x00000009 : Word).extractLsb' 0 8⟩ = 0x0000090A := by decide

/-- Settles O27: the step offers the word, and an idle core completes it at once (`step_illegal`). -/
theorem illegalWordChangesStatusOnly : Obligations.IllegalWordChangesStatusOnly :=
  ⟨fun _ _ _ _ _ => step_illegal, fun _ _ _ hinv hp hi hh =>
    ⟨_, step_illegal hinv hp rfl not_legalWord_nine hi hh, (memRead_status _).trans statusWord_illegal_nine⟩⟩

/-! ### A secret that is too long -/

/-- Settles O45: the error exits complete without the decode stage, which alone reads SECRET_BUF. -/
theorem secretTooLongCompletesWithThree : Obligations.SecretTooLongCompletesWithThree := by
  intro s hlong
  have hl := secretTooLong_eq_true.2 hlong
  refine ⟨⟨_, exec_decode_tooLong hl, completed_complete .secretTooLong _, ⟨rfl, rfl⟩, rfl⟩, fun i hi => ?_,
    fun i buf e t hi ht => ?_⟩
  · exact ⟨_, exec_generate_tooLong hi hl, completed_complete .secretTooLong _, ⟨rfl, rfl⟩, sentinel_getElem, rfl⟩
  · have hl' : secretTooLong { s with secretBuf := buf, epoch := e } = true := hl
    rcases hi with rfl | hi
    · obtain rfl := Outcome.next.inj ((exec_decode_tooLong hl).symm.trans ht)
      exact exec_decode_tooLong hl'
    · obtain rfl := Outcome.next.inj ((exec_generate_tooLong hi hl).symm.trans ht)
      exact exec_generate_tooLong hi hl'

/-! ### An unavailable primitive -/

/-- Settles O49: UNAVAILABLE completes HMAC, which keeps CODE_STR, and GENERATE, which writes the sentinel; the two
completions are alike in every other register. -/
theorem unavailableCompletesWithOne : Obligations.UnavailableCompletesWithOne := by
  intro s rest hinv hp hi
  have ho := hinv.outstandingIff.2 hp
  obtain ⟨i, hc, rfl | hg⟩ := hinv.waitCur hp
  · have hact := act_respond_hmac (s := { s with inputs := rest }) .unavailable ho hc
    exact ⟨_, (step_move hi).trans hact, completed_complete .primitiveUnavailable _, ⟨rfl, rfl⟩, rfl, rfl, ⟨rfl, rfl⟩,
      rfl, ⟨rfl, rfl, rfl⟩, ⟨rfl, rfl, rfl, rfl⟩, ⟨rfl, rfl⟩, ⟨rfl, rfl, rfl, rfl, rfl⟩, rfl, fun _ => rfl,
      fun hn => absurd hc hn⟩
  · have hact := act_respond_generate (s := { s with inputs := rest }) .unavailable ho hg hc
    have hn : s.cur ≠ some .hmac := by rcases hg with rfl | rfl <;> simp [hc]
    exact ⟨_, (step_move hi).trans hact, completed_complete .primitiveUnavailable _, ⟨rfl, rfl⟩, rfl, rfl, ⟨rfl, rfl⟩,
      rfl, ⟨rfl, rfl, rfl⟩, ⟨rfl, rfl, rfl, rfl⟩, ⟨rfl, rfl⟩, ⟨rfl, rfl, rfl, rfl, rfl⟩, rfl,
      fun h => absurd h hn, fun _ => sentinel_getElem⟩

end Sys2Proof.Machine
end

section
/-! PROOFS. Every step is taken, and a command completes in its own steps, which a POLL sees (R39, R67, R106, R108). -/

namespace Sys2Proof.Machine

open Host (Outcome)
open Sys2Proof.Spec

/-! ### No step stops -/

theorem exec_next (i : Instr) (s : State) : ∃ t, exec i s = .next t := by
  rcases exec_cases i s with ⟨u, hx, _⟩ | ⟨_, hx⟩ | ⟨_, _, hx⟩ | ⟨_, _, hx⟩ | ⟨_, _, hx⟩ <;> exact ⟨_, hx⟩

/-- In EXEC a command is current, so the core's step runs it. -/
theorem coreStep_next {s : State} (h : s.Inv) : ∃ t, coreStep s = .next t := by
  by_cases hp : s.phase = .exec
  · obtain ⟨i, hr⟩ := h.running (by simp [hp])
    rw [coreStep_exec hp hr.cur]
    exact exec_next i s
  · exact ⟨s, coreStep_notExec hp⟩

theorem respond_stray (a : Answer) {s : State} (h : s.outstanding = false) : respond a s = .next s :=
  if_neg (by simp [h])

/-- A response is admitted in WAIT only, where a command awaits it. -/
theorem respond_taken (a : Answer) {s : State} (h : s.Inv) : ∃ t, respond a s = .next t := by
  by_cases hp : s.phase = .wait
  · exact respond_wait h hp a
  · exact ⟨s, respond_stray a (h.outstanding_eq_false hp)⟩

theorem act_next (m : Move) {s : State} (h : s.Inv) : ∃ t, act m s = .next t := by
  cases m with
  | core => exact coreStep_next h
  | respond a => exact respond_taken a h
  | respondHmac =>
    cases hr : s.portReq with
    | none => exact ⟨s, act_respondHmac_none hr⟩
    | some r => rw [act_respondHmac hr]; exact respond_taken _ h
  | host | drive _ | reset => exact ⟨_, rfl⟩

theorem step_next {s : State} (h : s.Inv) : ∃ t, step s = .next t := by
  cases hi : s.inputs with
  | nil => rw [step_core hi]; exact coreStep_next h
  | cons m rest => rw [step_move hi]; exact act_next m (inv_quiet h ⟨_, _, _, _, _, rfl⟩)

/-- Settles O8: every move is taken (`act_next`), the EXEC step in every state (`exec_next`). -/
theorem stepNeverStops : Obligations.StepNeverStops := ⟨fun _ => step_next, exec_next⟩

/-! ### The three steps of a command -/

/-- A response to a core that waits, or has completed already, leaves it idle with the command completed. -/
theorem step_respond_completes {s : State} {a : Answer} {rest : List Move} (hinv : s.Inv)
    (hi : s.inputs = .respond a :: rest) (h : s.phase = .wait ∨ ∃ e, Completed e s) :
    ∃ t e, step s = .next t ∧ Completed e t ∧ t.status.lastop = s.status.lastop := by
  rcases h with hp | ⟨e, hc⟩
  · have hpop := inv_quiet hinv (quiet_popped s)
    have ho := hpop.outstandingIff.2 hp
    obtain ⟨t, ht⟩ := respond_wait hpop hp a
    exact ⟨t, _, (step_answers (.inl ⟨rest, hi⟩)).trans ht, respond_completed ho ht, (respond_frame ho ht).flags.lastop⟩
  · have ho := hinv.outstanding_eq_false (by simp [hc.phase])
    exact ⟨_, e, step_respond_stray ho hi, ⟨hc.phase, hc.cur, hc.busy, hc.done, hc.err⟩, rfl⟩

/-- An EXEC step leaves the core in WAIT, for HMAC and GENERATE only, or completes the command. -/
theorem exec_waits_or_completes {i : Instr} {s t : State} (h : exec i s = .next t) :
    (t.phase = .wait ∧ awaitsProvider i) ∨ ∃ e, Completed e t := by
  rcases exec_ends h with ⟨hi, hp⟩ | ⟨_, _, hc⟩ | ⟨_, _, _, _, hc⟩
  · exact .inl ⟨hp, hi.imp_right And.left⟩
  · exact .inr ⟨_, hc⟩
  · exact .inr ⟨_, hc⟩

/-! ### A POLL -/

theorem step_poll {s : State} {ops : List HostStep} {rest : List Move} (hi : s.inputs = .host :: rest)
    (hh : s.host = .poll :: ops) :
    step s = .next (hostRead 0x004
      { s with host := if (memRead s 0x004).getLsbD 0 then .poll :: ops else ops, inputs := rest }) := by
  rw [step_move hi]
  exact congrArg Outcome.next (hostTurn_poll (s := { s with inputs := rest }) hh)

theorem memWrite_inputs (off : Offset) (v : Word) (s : State) : (memWrite off v s).inputs = s.inputs := by
  rcases memWrite_cases off v s with h | ⟨_, h⟩ | ⟨_, h | h | h | h | ⟨w, _, h⟩⟩ <;> rw [h]
  case inr.inr.inl => exact accept_inputs v s
  all_goals rfl

theorem hostTurn_inputs (s : State) : (hostTurn s).inputs = s.inputs := by
  rcases hostTurn_cases s with ⟨_, h⟩ | ⟨off, ops, h, _⟩ | ⟨off, v, ops, _, h⟩ <;> rw [h]
  · rfl
  · exact memWrite_inputs off v _

theorem coreStep_ports {s t : State} (h : coreStep s = .next t) : SamePorts s t := by
  by_cases hp : s.phase = .exec
  · cases hc : s.cur with
    | none => rw [coreStep_noCommand hp hc] at h; cases h
    | some i => exact (exec_frame (coreStep_exec hp hc ▸ h)).ports
  · rw [coreStep_notExec hp] at h
    cases h
    exact ⟨rfl, rfl, rfl, rfl, rfl, rfl⟩

theorem respond_ports {s t : State} {a : Answer} (h : respond a s = .next t) : SamePorts s t := by
  cases ho : s.outstanding with
  | true => exact (respond_frame ho h).ports
  | false =>
    rw [respond_stray a ho] at h
    cases h
    exact ⟨rfl, rfl, rfl, rfl, rfl, rfl⟩

/-- A move takes no further move, and only the host's goes on with the host's program (R52, R112). -/
theorem act_program {m : Move} {s t : State} (h : act m s = .next t) :
    t.inputs = s.inputs ∧ (m ≠ .host → t.host = s.host) := by
  have of_ports (hs : SamePorts s t) : t.inputs = s.inputs ∧ (m ≠ .host → t.host = s.host) :=
    ⟨hs.inputs, fun _ => hs.host⟩
  cases m with
  | host => cases h; exact ⟨hostTurn_inputs s, fun hm => absurd rfl hm⟩
  | core => exact of_ports (coreStep_ports h)
  | respond a => exact of_ports (respond_ports h)
  | respondHmac =>
    cases hr : s.portReq with
    | none => rw [act_respondHmac_none hr] at h; cases h; exact ⟨rfl, fun _ => rfl⟩
    | some r => exact of_ports (respond_ports (act_respondHmac hr ▸ h))
  | drive _ | reset => cases h; exact ⟨rfl, fun _ => rfl⟩

/-- A step takes the next move off the list. -/
theorem step_inputs {s t : State} (h : step s = .next t) : t.inputs = s.inputs.tail := by
  cases hi : s.inputs with
  | nil =>
    rw [step_core hi] at h
    exact (coreStep_ports h).inputs.trans hi
  | cons m rest =>
    rw [step_move hi] at h
    exact (act_program h).1

theorem State.Inv.reads_busy {s : State} (h : s.Inv) (hp : s.phase ≠ .idle) : (memRead s 0x004).getLsbD 0 = true :=
  (busyReadsPhase.1 s h).2 hp

/-- While PHASE is not IDLE a host at a POLL stays there, whichever agent moves (R67). -/
theorem step_poll_stays {s t : State} {ops : List HostStep} (hinv : s.Inv) (hp : s.phase ≠ .idle)
    (hh : s.host = .poll :: ops) (h : step s = .next t) : t.host = .poll :: ops := by
  cases hi : s.inputs with
  | nil =>
    rw [step_core hi] at h
    exact (coreStep_ports h).host.trans hh
  | cons m rest =>
    by_cases hm : m = .host
    · subst hm
      rw [step_poll hi hh, hinv.reads_busy hp] at h
      cases h
      rfl
    · rw [step_move hi] at h
      exact ((act_program h).2 hm).trans hh

/-- A step that leaves the core idle from EXEC or WAIT and is no reset has completed the command. -/
theorem step_idle_done {s t : State} (hinv : s.Inv) (hp : s.phase ≠ .idle) (h : step s = .next t)
    (hr : ¬ resets s) (ht : t.phase = .idle) : t.status.done = true := by
  cases hs : s.phase with
  | idle => exact absurd hs hp
  | exec => exact (step_exec_completes hinv h hs ht hr).done
  | wait =>
    obtain ⟨_, _, hc⟩ := step_wait_completes h hs ht hr
    exact hc.done

theorem run_succ {s t : State} (h : step s = .next t) (k : Nat) :
    Host.Core.run core (k + 1) s = Host.Core.run core k t := by
  have hstep : core.step s = .next t := h
  simp only [Host.Core.run, hstep]

/-- A POLL entered while a command runs is left only after the command has completed: by induction on the steps, the
host stays at it up to the step that leaves the core idle. -/
theorem poll_ends_after_completion (k : Nat) (s t : State) (ops : List HostStep) (hinv : s.Inv) (hp : s.phase ≠ .idle)
    (hr : ∀ m ∈ s.inputs, m ≠ .reset) (hh : s.host = .poll :: ops) (hrun : Host.Core.run core k s = .next t)
    (ht : t.host ≠ .poll :: ops) :
    ∃ j u, j < k ∧ Host.Core.run core j s = .next u ∧ u.phase = .idle ∧ u.status.done = true ∧
      u.host = .poll :: ops := by
  induction k generalizing s with
  | zero =>
    cases hrun
    exact absurd hh ht
  | succ k ih =>
    obtain ⟨v, hv⟩ := step_next hinv
    have hvh := step_poll_stays hinv hp hh hv
    rw [run_succ hv] at hrun
    by_cases hvp : v.phase = .idle
    · have hnr : ¬ resets s := fun ⟨rest, hi⟩ => hr .reset (by simp [hi]) rfl
      cases k with
      | zero => cases hrun; exact absurd hvh ht
      | succ k => exact ⟨1, v, by omega, run_succ hv 0, hvp, step_idle_done hinv hp hv hnr hvp, hvh⟩
    · have hvr : ∀ m ∈ v.inputs, m ≠ .reset := fun m hm => hr m (List.mem_of_mem_tail (step_inputs hv ▸ hm))
      obtain ⟨j, u, hj, hju, hu⟩ := ih v (inv_step hinv hv) hvp hvr hvh hrun
      exact ⟨j + 1, u, by omega, (run_succ hv j).trans hju, hu⟩

/-- Settles O11: the acceptance and the EXEC step as O5 has them, then the response (`step_respond_completes`); one turn
at a POLL (`step_poll`); and the loop's end (`poll_ends_after_completion`). -/
theorem commandsCompleteInTheirSteps : Obligations.CommandsCompleteInTheirSteps := by
  refine ⟨fun s w i a ops hinv hp hd hi hh => ?_, fun s ops rest hi hh => ?_, poll_ends_after_completion⟩
  · obtain ⟨t, ht, _, htp, htc, htx⟩ := stepRunsTheDecodedCommand.1 s w i ops [.respond a] hd hp hi hh
    have htinv := inv_step hinv ht
    obtain ⟨j, hrun⟩ := htinv.running (by simp [htp])
    obtain ⟨u, hu⟩ := exec_next i { t with inputs := [.respond a] }
    obtain ⟨_, hports, hflags⟩ := exec_frame hu
    have hends := exec_waits_or_completes hu
    obtain ⟨v, e, hv, hc, hlast⟩ := step_respond_completes (inv_step htinv (htx.trans hu)) hports.inputs
      (hends.imp_left And.left)
    refine ⟨t, u, v, ht, htx.trans hu, hv, htp, hrun.busy, hrun.done, hc.phase, hc.busy, hc.done,
      hlast.trans (hflags.lastop.trans (htinv.lastopCur i htc)), fun h1 h2 h3 => ?_⟩
    rcases hends with ⟨_, hwaits⟩ | ⟨_, hcu⟩
    · simp [awaitsProvider, h1, h2, h3] at hwaits
    · exact ⟨hcu.phase, hcu.done⟩
  · refine ⟨_, step_poll hi hh, ?_, sameRegisters_hostRead s _ _ _, rfl, rfl⟩
    rw [memRead_status]
    exact congrArg some (memRead_status _)

end Sys2Proof.Machine
end

section
/-! PROOFS. Reset, and a provider that stays silent (R13, R83, R119, R126). -/

namespace Sys2Proof.Machine

open Sys2Proof.Spec

/-! ### A silent provider -/

/-- No move to come is a response or a reset, the two moves that end PHASE = WAIT (R83). -/
def Silent (s : State) : Prop := ∀ m ∈ s.inputs, endsWait m = false

theorem Silent.not_answers {s : State} (h : Silent s) (a : Answer) : ¬ answers s a := by
  rintro (⟨rest, hi⟩ | ⟨rest, r, hi, _⟩)
  · simpa [endsWait] using h (.respond a) (by simp [hi])
  · simpa [endsWait] using h .respondHmac (by simp [hi])

theorem Silent.not_resets {s : State} (h : Silent s) : ¬ resets s := fun ⟨rest, hi⟩ => by
  simpa [endsWait] using h .reset (by simp [hi])

theorem Silent.of_step {s t : State} (h : Silent s) (ht : step s = .next t) : Silent t := fun m hm =>
  h m (List.mem_of_mem_tail (step_inputs ht ▸ hm))

/-- In WAIT a move that is no response and no reset leaves PHASE, the request and the command: it is quiet, or a write
that is dropped. -/
theorem step_wait_silent {s t : State} (hp : s.phase = .wait) (hs : Silent s) (h : step s = .next t) :
    t.phase = .wait ∧ t.portReq = s.portReq ∧ t.cur = s.cur := by
  cases step_effect h with
  | quiet hq => obtain ⟨n, r, ops, l, d, rfl⟩ := hq; exact ⟨hp, rfl, rfl⟩
  | dropped u off v ops rest hq hi hh hw hb ht => obtain ⟨n, r, ops, l, d, rfl⟩ := hq; subst ht; exact ⟨hp, rfl, rfl⟩
  | exec u i hq hm hx hc he => simp [hp] at hx
  | response u a hq ha ho hr => exact absurd ha (hs.not_answers a)
  | accepted u w hq ha ht => obtain ⟨hx, _⟩ := ha; simp [hp] at hx
  | written u v f hq hx hf ht => simp [hp] at hx
  | reset u hq hr ht => exact absurd hr hs.not_resets

/-- `t` waits as `s` did: for the answer to the same request of the same command, with the host in the same POLL. -/
structure StillWaits (s t : State) : Prop where
  inv     : t.Inv
  phase   : t.phase = .wait
  portReq : t.portReq = s.portReq
  cur     : t.cur = s.cur
  poll    : ∀ ops, s.host = .poll :: ops → t.host = .poll :: ops

theorem StillWaits.trans {s u t : State} (h : StillWaits s u) (h' : StillWaits u t) : StillWaits s t where
  inv := h'.inv
  phase := h'.phase
  portReq := h'.portReq.trans h.portReq
  cur := h'.cur.trans h.cur
  poll ops hh := h'.poll ops (h.poll ops hh)

theorem stillWaits_step {s t : State} (hinv : s.Inv) (hp : s.phase = .wait) (hs : Silent s) (h : step s = .next t) :
    StillWaits s t := by
  obtain ⟨hphase, hreq, hcur⟩ := step_wait_silent hp hs h
  exact ⟨inv_step hinv h, hphase, hreq, hcur, fun _ hh => step_poll_stays hinv (by simp [hp]) hh h⟩

/-- With the provider silent the core waits for ever: by induction on the steps, each of which leaves it waiting and
the moves to come silent. -/
theorem run_stillWaits (k : Nat) {s : State} (hinv : s.Inv) (hp : s.phase = .wait) (hs : Silent s) :
    ∃ t, Host.Core.run core k s = .next t ∧ StillWaits s t := by
  induction k generalizing s with
  | zero => exact ⟨s, rfl, hinv, hp, rfl, rfl, fun _ hh => hh⟩
  | succ k ih =>
    obtain ⟨u, hu⟩ := step_next hinv
    have hw := stillWaits_step hinv hp hs hu
    obtain ⟨t, ht, hwt⟩ := ih hw.inv hw.phase (hs.of_step hu)
    exact ⟨t, (run_succ hu k).trans ht, hw.trans hwt⟩

/-- Settles O10: the run of a silent provider (`run_stillWaits`), where the invariant gives OUTSTANDING and BUSY. -/
theorem silentProviderHangsTheCore : Obligations.SilentProviderHangsTheCore := by
  refine ⟨fun k s hinv hp hs => ?_, fun s hp hi => ?_, fun s ⟨_, hi⟩ => ⟨_, step_move hi, rfl⟩⟩
  · obtain ⟨t, ht, hw⟩ := run_stillWaits k hinv hp hs
    exact ⟨t, ht, hw.phase, hw.inv.outstandingIff.2 hw.phase, hw.portReq, hw.cur,
      hw.inv.reads_busy (by simp [hw.phase]), hw.poll⟩
  · rw [step_core hi, coreStep_notExec (by simp [hp])]

/-! ### Reset -/

theorem memRead_status_applyReset (s : State) : memRead (applyReset s) 0x004 = 0 :=
  (memRead_status _).trans (show statusWord Status.reset = 0 by decide)

theorem memRead_ratio_applyReset (s : State) : memRead (applyReset s) 0x04C = 0x00001E00 :=
  (memRead_idle (r := .ratio) rfl rfl).trans (show ratioWord 0 = 0x00001E00 by decide)

/-- After reset SECRET_BUF holds no written character, so each reads as the free one of the new epoch (R24, log 5). -/
theorem readChar_applyReset (s : State) (i : Nat) : readChar (applyReset s) i = Config.freeChar (s.epoch + 1) i := rfl

/-- Settles O12: the step is `applyReset`, which is `State.resetWith` but for the fields that are no registers. -/
theorem resetSetsEveryRegister : Obligations.ResetSetsEveryRegister := by
  intro s rest hi
  exact ⟨_, step_move hi, memRead_status_applyReset _, rfl, rfl, rfl, rfl, rfl, rfl, rfl, rfl, rfl,
    fun i => Vector.getElem_replicate i.isLt, rfl, rfl, fun i => Vector.getElem_replicate i.isLt, rfl, rfl, rfl,
    fun i => Vector.getElem_replicate i.isLt, rfl, memRead_ratio_applyReset _, rfl, readChar_applyReset _, rfl, rfl,
    rfl, rfl⟩

end Sys2Proof.Machine
end
